-- ==== Sys2Proof/Word.lean ====
section
/-! DEFINITION. The word types of the core: bytes, the 32-bit words of the key schedule, host addresses. -/

namespace Sys2Proof

/-- A lane, a key byte, a host datum (00_scope.md section 5): unsigned, 8 bits. -/
abbrev Byte := BitVec 8

/-- The round constant and the operands of the key-schedule addition (00_scope.md section 5): unsigned, 32 bits. -/
abbrev Word := BitVec 32

/-- A host address (20_memory.md R40): 11 bits, `0x000` to `0x7FF`, one byte per address. -/
abbrev Addr := BitVec 11

end Sys2Proof
end

