-- ==== Sys2Proof/Syntax.lean ====
section
/-! DEFINITION. The command words, their fields, the host's events and the host script statements, as syntax. -/

namespace Sys2Proof

/-- The key-size variant (00_scope.md R1, R4): the 1-bit field `VAR`, 0 = K128 and 1 = K256 (30_encoding.md R70). -/
inductive Variant where
  | k128
  | k256
deriving DecidableEq, Repr

/-- The 2-bit field `OP` (30_encoding.md R70): 0 reserved, 1 EXPAND, 2 ENCRYPT, 3 DECRYPT. -/
inductive OpCode where
  | reserved
  | expand
  | encrypt
  | decrypt
deriving DecidableEq, Repr

/-- The six command words, one constructor per row of the opcode table (30_encoding.md R71). Every field of a word is
fixed, so no constructor carries an operand (R72). -/
inductive Instr where
  | expandK128
  | encryptK128
  | decryptK128
  | expandK256
  | encryptK256
  | decryptK256
deriving DecidableEq, Repr

/-- The fields of the format `CMD8` (30_encoding.md R70), for any byte: `OP` = bits 1:0, `VAR` = bit 2, `RSV` = bits 7:3. -/
structure CommandFields where
  op : BitVec 2
  var : BitVec 1
  rsv : BitVec 5
deriving DecidableEq, Repr

/-- What may come next in the interleaving of 20_memory.md R54, and reset (70_reset_and_hazards.md R200):
a host read, a host write, one engine step, the script's `RUN` (30_encoding.md R75: engine steps until idle), a reset. -/
inductive Event where
  | read (addr : Addr)
  | write (addr : Addr) (v : Byte)
  | engine
  | run
  | reset
deriving DecidableEq, Repr

/-- A line of a host script: the primitive statements of 30_encoding.md R75 and the pseudo-statements of R76. -/
inductive ScriptLine where
  | wr (addr : Addr) (v : Byte)
  | rd (addr : Addr)
  | rdExpect (addr : Addr) (v : Byte)
  | run
  | reset
  | command (i : Instr)
  | loadKey (bytes : List Byte)
  | loadBlk (bytes : List Byte)
  | wait
  | readBlk
  | readEks (n : Nat)
  | loadEks (n : Nat) (b0 b1 b2 b3 : Byte)
deriving DecidableEq, Repr

end Sys2Proof
end

