-- ==== Sys2Proof/WellFormed.lean ====
section
/-! DEFINITION. Which instructions, command fields and script lines are well formed. -/

namespace Sys2Proof

/-- Every command word is well formed: it carries no immediate and no register number (30_encoding.md R72), so there
is nothing to check in one. The checks on a byte are `CommandFields.wellFormed`. -/
def Instr.wellFormed : Instr → Bool
  | .expandK128 => true
  | .encryptK128 => true
  | .decryptK128 => true
  | .expandK256 => true
  | .encryptK256 => true
  | .decryptK256 => true

/-- The fields of a legal command word (30_encoding.md R70, R73): `OP` is not the reserved 0 and `RSV` is 0. -/
def CommandFields.wellFormed (f : CommandFields) : Bool :=
  decide (f.rsv = 0) && decide (f.op ≠ 0)

/-- The operand checks of the script's pseudo-statements (30_encoding.md R76): a key of 16 or 32 bytes, a block of 8
bytes, a table entry number 0 to 128 (20_memory.md R42). -/
def ScriptLine.wellFormed : ScriptLine → Bool
  | .wr _ _ => true
  | .rd _ => true
  | .rdExpect _ _ => true
  | .run => true
  | .reset => true
  | .command i => i.wellFormed
  | .loadKey bytes => decide (bytes.length = 16) || decide (bytes.length = 32)
  | .loadBlk bytes => decide (bytes.length = 8)
  | .wait => true
  | .readBlk => true
  | .readEks n => decide (n ≤ 128)
  | .loadEks n _ _ _ _ => decide (n ≤ 128)

end Sys2Proof
end

