-- ==== Sys2Proof/Decode.lean ====
section
/-! DEFINITION. From a byte to a command word or a named rejection, and from a command word to its byte. -/

namespace Sys2Proof

/-- Why a byte is no command word (30_encoding.md R73). -/
inductive DecodeReject where
  /-- a bit of `RSV` (bits 7:3) is set -/
  | reservedBits
  /-- `OP` is 0 -/
  | reservedOp
deriving DecidableEq, Repr

/-- The fields of any byte (30_encoding.md R70). -/
def commandFields (c : Byte) : CommandFields :=
  { op := c.extractLsb' 0 2, var := c.extractLsb' 2 1, rsv := c.extractLsb' 3 5 }

/-- The operation a value of `OP` names (30_encoding.md R70). -/
def opCodeOfField (op : BitVec 2) : OpCode :=
  if op = 0 then .reserved else if op = 1 then .expand else if op = 2 then .encrypt else .decrypt

/-- The value of `OP` that names an operation (30_encoding.md R70). -/
def fieldOfOpCode : OpCode → BitVec 2
  | .reserved => 0
  | .expand => 1
  | .encrypt => 2
  | .decrypt => 3

/-- `v = K128` if bit 2 is 0 and `v = K256` if bit 2 is 1 (30_encoding.md R72). -/
def variantOfField (var : BitVec 1) : Variant :=
  if var = 0 then .k128 else .k256

/-- The value of `VAR` that names a variant (30_encoding.md R70). -/
def fieldOfVariant : Variant → BitVec 1
  | .k128 => 0
  | .k256 => 1

/-- The decoder, total on bytes (44_host_commands.md R150, first two lines; 30_encoding.md R71, R73). -/
def decode (c : Byte) : Except DecodeReject Instr :=
  let f := commandFields c
  if f.rsv = 0 then
    match opCodeOfField f.op, variantOfField f.var with
    | .reserved, _ => .error .reservedOp
    | .expand, .k128 => .ok .expandK128
    | .encrypt, .k128 => .ok .encryptK128
    | .decrypt, .k128 => .ok .decryptK128
    | .expand, .k256 => .ok .expandK256
    | .encrypt, .k256 => .ok .encryptK256
    | .decrypt, .k256 => .ok .decryptK256
  else .error .reservedBits

/-- The operation of a command word (30_encoding.md R71). -/
def Instr.opCode : Instr → OpCode
  | .expandK128 => .expand
  | .encryptK128 => .encrypt
  | .decryptK128 => .decrypt
  | .expandK256 => .expand
  | .encryptK256 => .encrypt
  | .decryptK256 => .decrypt

/-- The variant of a command word (30_encoding.md R71). -/
def Instr.variant : Instr → Variant
  | .expandK128 => .k128
  | .encryptK128 => .k128
  | .decryptK128 => .k128
  | .expandK256 => .k256
  | .encryptK256 => .k256
  | .decryptK256 => .k256

/-- A byte laid out from its fields: `RSV`, `VAR`, `OP` from the most significant bit down (30_encoding.md R70). -/
def wordOfFields (f : CommandFields) : Byte := f.rsv ++ f.var ++ f.op

/-- The encoder (30_encoding.md R70, R71): the byte that is written to `CMD`. -/
def encode (i : Instr) : Byte :=
  wordOfFields { op := fieldOfOpCode i.opCode, var := fieldOfVariant i.variant, rsv := 0 }

/-- The decoder's answer for a row of the opcode table, for the host: a command word is one byte (30_encoding.md R70,
R77), so a word of another length, or one that does not fit in it, is no instruction (log 12). -/
def decodeTableWord (nbits w : Nat) : Option Instr :=
  if nbits = 8 ∧ w < 256 then (decode (BitVec.ofNat 8 w)).toOption else none

end Sys2Proof
end

