-- ==== Sys2Proof/Config.lean ====
section
/-! DEFINITION. What an implementation fixes and the spec leaves open: the free values, each with no body. -/

namespace Sys2Proof

/-- Free value (70_reset_and_hazards.md R203, D18): the unspecified byte that host address `addr` of the schedule memory
holds after a reset and until it is written, for the `draw`-th drawing of those contents. One value per byte and drawing,
so repeated reads agree. Log 3 (safe): nothing in Lean can evaluate it. -/
opaque Config.eksReset (draw addr : Nat) : Byte

/-- Free value (D26, 00_scope.md section 4): one less than the clock cycles of an accept. Log 7. -/
opaque Config.tAcceptPred : Nat

/-- Free value (D26): one less than the clock cycles of a half-round or schedule step. Log 7. -/
opaque Config.tHalfPred : Nat

/-- Free value (D26): one less than the clock cycles of a finish step. Log 7. -/
opaque Config.tFinishPred : Nat

/-- `T_ACCEPT` (D26): a positive number of clock cycles; no rule depends on it. -/
def Config.tAccept : Nat := Config.tAcceptPred + 1

/-- `T_HALF` (D26): a positive number of clock cycles; no rule depends on it. -/
def Config.tHalf : Nat := Config.tHalfPred + 1

/-- `T_FINISH` (D26): a positive number of clock cycles; no rule depends on it. -/
def Config.tFinish : Nat := Config.tFinishPred + 1

end Sys2Proof
end

