-- ==== Sys2Proof/Machine/State.lean ====
section
/-! DEFINITION. The state of one core as plain data, the reasons a step can stop, and the state after reset. -/

namespace Sys2Proof.Machine

/-- Four lanes: a branch of the block, lane `j` = byte `j` of the half (10_state.md R11), and a subkey, byte `j` in
place `j` (20_memory.md R45). -/
structure Lanes where
  l0 : Byte
  l1 : Byte
  l2 : Byte
  l3 : Byte
deriving DecidableEq, Repr

/-- The fields of `STATUS` (10_state.md R20). Bit 7 is never written and reads 0, so it has no storage (log 8). -/
structure Status where
  busy : Bool
  done : Bool
  err : Bool
  errcode : BitVec 3
  ovr : Bool
deriving DecidableEq, Repr

/-- The bytes of the schedule memory written since the last reset, by host address (10_state.md R26; 20_memory.md R41,
R42). A byte not listed holds its unspecified reset contents `Config.eksReset` (70_reset_and_hazards.md R203; log 3). -/
abbrev Memory := List Host.Cell

/-- The state of one core: 10_state.md R10 ("The state of one core is exactly"), and the model's own three last fields. -/
structure State where
  /-- `L[0..3]`, left branch (10_state.md R11) -/
  l : Lanes
  /-- `R[0..3]`, right branch (10_state.md R11) -/
  r : Lanes
  /-- `KS[0..31]`, scratch key (10_state.md R12) -/
  ks : Vector Byte 32
  /-- `RC`, round-constant accumulator (10_state.md R13) -/
  rc : Word
  /-- `HR`, half-round counter (10_state.md R14) -/
  hr : BitVec 8
  /-- `OP`, the running operation, 2 bits (10_state.md R15; log 8) -/
  op : OpCode
  /-- `VAR`, the running variant, 1 bit (10_state.md R15; log 8) -/
  var : Variant
  /-- `KEY[0..31]` (10_state.md R16) -/
  key : Vector Byte 32
  /-- `DIN[0..7]` (10_state.md R17) -/
  din : Vector Byte 8
  /-- `DOUT[0..7]` (10_state.md R18) -/
  dout : Vector Byte 8
  /-- `STATUS` (10_state.md R20) -/
  status : Status
  /-- `KEYLEN` (10_state.md R23) -/
  keylen : Byte
  /-- `BLKLEN` (10_state.md R24) -/
  blklen : Byte
  /-- `SCHLEN` (10_state.md R25) -/
  schlen : Byte
  /-- `EKS[0..128][0..3]` (10_state.md R26) -/
  eks : Memory
  /-- The model's own: which drawing of the unspecified contents of `EKS` the present one is (log 4) -/
  eksDraw : Nat
  /-- The model's own: the events still to come, next first (log 1) -/
  schedule : List Event
  /-- The model's own: the bytes the host's reads returned, oldest first (30_encoding.md R75; log 5) -/
  results : List Byte
deriving DecidableEq, Repr

/-- Why the machine stops. -/
inductive Fault where
  /-- Raised by the engine step alone, when `BUSY = 1` with `OP = 0` or `HR > 2*rounds(VAR)`: 44_host_commands.md R158
  calls that unreachable and R153 enables no step there. Safe: the model stops where the spec says nothing. Log 6. -/
  | engineStuck
deriving DecidableEq, Repr

/-- Why the model gives no meaning. -/
inductive Refusal where
  /-- Raised by an arm of `exec` for an instruction without a meaning; no arm of this model does. Safe. -/
  | notModelled (mnemonic : String)
deriving DecidableEq, Repr

/-- `STATUS` after reset: `0x00` (10_state.md R31). -/
def Status.reset : Status :=
  { busy := false, done := false, err := false, errcode := 0, ovr := false }

/-- Four zero lanes. -/
def Lanes.zero : Lanes := { l0 := 0, l1 := 0, l2 := 0, l3 := 0 }

/-- The state after reset (10_state.md R31, 70_reset_and_hazards.md R200): all registers and flags 0; no byte of `EKS` has
a determined value. The last three fields are the model's own (logs 1, 4, 5; DESIGN CHOICE). -/
def State.reset : State :=
  { l := .zero, r := .zero, ks := Vector.replicate 32 0, rc := 0, hr := 0, op := .reserved, var := .k128,
    key := Vector.replicate 32 0, din := Vector.replicate 8 0, dout := Vector.replicate 8 0, status := .reset,
    keylen := 0, blklen := 0, schlen := 0, eks := [], eksDraw := 0, schedule := [], results := [] }

end Sys2Proof.Machine
end

