-- ==== Sys2Proof/Machine/Operands.lean ====
section
/-! DEFINITION. The operand forms: host addresses (20_memory.md R41, R42), and the four-byte values read from and written
to the register files. -/

namespace Sys2Proof.Machine

/-- What a host address names (20_memory.md R41). -/
inductive Target where
  | key (i : Fin 32)
  | din (i : Fin 8)
  | dout (i : Fin 8)
  | cmd
  | status
  | keylen
  | blklen
  | schlen
  | eks (n : Fin 129) (j : Fin 4)
  | unmapped
deriving DecidableEq, Repr

/-- First host address of the schedule memory (20_memory.md R41). -/
def eksBase : Nat := 0x400

/-- First host address above the schedule memory (20_memory.md R41: the last mapped one is `0x603`). -/
def eksEnd : Nat := 0x604

/-- The host address of byte `j` of schedule entry `n` (20_memory.md R42). -/
def eksAddress (n j : Nat) : Nat := eksBase + 4 * n + j

/-- The address map (20_memory.md R41). -/
def addressMap (a : Addr) : Target :=
  if h : a.toNat < 0x20 then .key ⟨a.toNat, h⟩
  else if h : a.toNat < 0x28 then .din ⟨a.toNat - 0x20, by omega⟩
  else if h : a.toNat < 0x30 then .dout ⟨a.toNat - 0x28, by omega⟩
  else if a.toNat = 0x30 then .cmd
  else if a.toNat = 0x31 then .status
  else if a.toNat = 0x32 then .keylen
  else if a.toNat = 0x33 then .blklen
  else if a.toNat = 0x34 then .schlen
  else if h : 0x400 ≤ a.toNat ∧ a.toNat < 0x604 then
    .eks ⟨(a.toNat - 0x400) / 4, by omega⟩ ⟨(a.toNat - 0x400) % 4, by omega⟩
  else .unmapped

/-- The host address of a named register (20_memory.md R41, R42); none for what is not mapped. -/
def Target.address : Target → Option Addr
  | .key i => some (BitVec.ofNat 11 i.val)
  | .din i => some (BitVec.ofNat 11 (0x20 + i.val))
  | .dout i => some (BitVec.ofNat 11 (0x28 + i.val))
  | .cmd => some 0x030
  | .status => some 0x031
  | .keylen => some 0x032
  | .blklen => some 0x033
  | .schlen => some 0x034
  | .eks n j => some (BitVec.ofNat 11 (eksAddress n.val j.val))
  | .unmapped => none

/-- The host may write it: everything mapped but the read-only `DOUT` and `STATUS` (20_memory.md R41, R49, R50). -/
def Target.writable : Target → Bool
  | .key _ => true
  | .din _ => true
  | .dout _ => false
  | .cmd => true
  | .status => false
  | .keylen => true
  | .blklen => true
  | .schlen => true
  | .eks _ _ => true
  | .unmapped => false

/-- Lane `j` of a four-lane value. -/
def Lanes.get (x : Lanes) (j : Fin 4) : Byte :=
  match j with
  | 0 => x.l0
  | 1 => x.l1
  | 2 => x.l2
  | 3 => x.l3

/-- Lane by lane XOR (00_scope.md section 5). -/
def Lanes.xor (x y : Lanes) : Lanes :=
  { l0 := x.l0 ^^^ y.l0, l1 := x.l1 ^^^ y.l1, l2 := x.l2 ^^^ y.l2, l3 := x.l3 ^^^ y.l3 }

/-- The Left branch of a block, bytes 0 to 3 (20_memory.md R43). -/
def leftOfBlock (b : Vector Byte 8) : Lanes := { l0 := b[0], l1 := b[1], l2 := b[2], l3 := b[3] }

/-- The Right branch of a block, bytes 4 to 7 (20_memory.md R43). -/
def rightOfBlock (b : Vector Byte 8) : Lanes := { l0 := b[4], l1 := b[5], l2 := b[6], l3 := b[7] }

/-- The block `L || R` (20_memory.md R43; 43_feistel_engine.md R133). -/
def blockOf (l r : Lanes) : Vector Byte 8 := #v[l.l0, l.l1, l.l2, l.l3, r.l0, r.l1, r.l2, r.l3]

end Sys2Proof.Machine
end

