-- ==== Sys2Proof/Machine/Diffusion.lean ====
section
/-! DEFINITION. The lane diffusion engine (41_diffusion.md): ShiftLanes, SwitchLanes, and their inverses. -/

namespace Sys2Proof.Machine

/-- `ROL8(x, n)`, `0 ≤ n ≤ 7` (00_scope.md section 5): left is toward the most significant bit. -/
def rol8 (x : Byte) (n : Nat) : Byte := (x <<< n) ||| (x >>> (8 - n))

/-- `ROR8(x, n) = ROL8(x, (8 - n) mod 8)` (00_scope.md section 5). -/
def ror8 (x : Byte) (n : Nat) : Byte := rol8 x ((8 - n) % 8)

/-- `ShiftLanes(a)` (41_diffusion.md R100): lanes 1, 2, 3 rotated left by 1, 3, 5 bits. -/
def shiftLanes (a : Lanes) : Lanes :=
  { l0 := a.l0, l1 := rol8 a.l1 1, l2 := rol8 a.l2 3, l3 := rol8 a.l3 5 }

/-- `SwitchLanes(a)` (41_diffusion.md R101): each lane moves to the next higher index, lane 3 to index 0. -/
def switchLanes (a : Lanes) : Lanes := { l0 := a.l3, l1 := a.l0, l2 := a.l1, l3 := a.l2 }

/-- `InvShiftLanes(s)` (41_diffusion.md R104). Not in the hardware (R106): no step uses it. -/
def invShiftLanes (s : Lanes) : Lanes :=
  { l0 := s.l0, l1 := ror8 s.l1 1, l2 := ror8 s.l2 3, l3 := ror8 s.l3 5 }

/-- `InvSwitchLanes(w)` (41_diffusion.md R105). Not in the hardware (R106): no step uses it. -/
def invSwitchLanes (w : Lanes) : Lanes := { l0 := w.l1, l1 := w.l2, l2 := w.l3, l3 := w.l0 }

end Sys2Proof.Machine
end

