-- ==== Sys2Proof/Machine/Flags.lean ====
section
/-! DEFINITION. The flags of `STATUS`: what sets and clears each (10_state.md R22), and the byte the host reads. The core has
no arithmetic condition codes. -/

namespace Sys2Proof.Machine

/-- The four errors (60_exceptions.md R170). -/
inductive CommandError where
  | illegalCommand
  | invalidKeyLength
  | invalidBlockLength
  | invalidScheduleLength
deriving DecidableEq, Repr

/-- What `ERRCODE` holds for each error (60_exceptions.md R170). -/
def CommandError.code : CommandError → BitVec 3
  | .illegalCommand => 1
  | .invalidKeyLength => 2
  | .invalidBlockLength => 3
  | .invalidScheduleLength => 4

/-- The flags after an accept (44_host_commands.md R152); `OVR` unchanged. -/
def Status.accepted (t : Status) : Status :=
  { t with busy := true, done := false, err := false, errcode := 0 }

/-- The flags after a finish (44_host_commands.md R154); `ERR`, `ERRCODE`, `OVR` unchanged. -/
def Status.finished (t : Status) : Status :=
  { t with busy := false, done := true }

/-- The flags after a refusal with error `e` (60_exceptions.md R176); `BUSY`, `OVR` unchanged. -/
def Status.refused (t : Status) (e : CommandError) : Status :=
  { t with err := true, errcode := e.code, done := false }

/-- The flags after a host write was dropped because the core was busy (20_memory.md R50): `OVR` is sticky. -/
def Status.overrun (t : Status) : Status :=
  { t with ovr := true }

/-- The byte a read of `STATUS` returns (10_state.md R20; 44_host_commands.md R160): bit 0 `BUSY`, 1 `DONE`, 2 `ERR`, 5:3
`ERRCODE`, 6 `OVR`, 7 zero. -/
def Status.toByte (t : Status) : Byte :=
  0#1 ++ BitVec.ofBool t.ovr ++ t.errcode ++ BitVec.ofBool t.err ++ BitVec.ofBool t.done ++ BitVec.ofBool t.busy

/-- The legal combinations of `BUSY`, `DONE`, `ERR` and `ERRCODE` (10_state.md R21), and no reserved code (60_exceptions.md
R170; U10). -/
abbrev Status.legal (t : Status) : Prop :=
  ¬ (t.busy = true ∧ t.done = true) ∧ ¬ (t.busy = true ∧ t.err = true) ∧ ¬ (t.done = true ∧ t.err = true) ∧
    (t.errcode ≠ 0 ↔ t.err = true) ∧ t.errcode.toNat ≤ 4

end Sys2Proof.Machine
end

