-- ==== Sys2Proof/Machine/Params.lean ====
section
/-! DEFINITION. The fixed parameters of the core (00_scope.md R4). -/

namespace Sys2Proof.Machine

/-- Key size in bytes (00_scope.md R4). -/
def klen : Variant → Nat
  | .k128 => 16
  | .k256 => 32

/-- Rounds (00_scope.md R4). -/
def rounds : Variant → Nat
  | .k128 => 32
  | .k256 => 64

/-- Half-rounds, or schedule steps, of one operation: two per round (00_scope.md R4). -/
def halfRounds (v : Variant) : Nat := 2 * rounds v

/-- Entries of the schedule table, the unused entry 0 counted (00_scope.md R4). -/
def slen (v : Variant) : Nat := 2 * rounds v + 1

/-- Block size in bytes (00_scope.md R4). -/
def blockBytes : Nat := 8

/-- The round-constant increment (00_scope.md R4; 42_key_schedule.md R111). -/
def delta : Word := 0x9E3779B9

end Sys2Proof.Machine
end

