-- ==== Sys2Proof/Machine/Ops.lean ====
section
/-! DEFINITION. The named operations over the schedule memory and the registers; refusing a command; accepting one;
finishing one; reset. -/

namespace Sys2Proof.Machine

/-! ### The schedule memory -/

/-- The canonical form of the schedule memory: addresses strictly rising, every one an address of `EKS`. No entry can
equal what an unlisted address reads as, because that is no determined value (log 3). -/
abbrev Memory.wf (m : Memory) : Prop :=
  m.Pairwise (fun c d => c.1 < d.1) ∧ ∀ c ∈ m, eksBase ≤ c.1 ∧ c.1 < eksEnd

/-- The byte written at address `a` since reset, if one was. -/
def Memory.lookup : Memory → Nat → Option Byte
  | [], _ => none
  | (b, v) :: m, a => if b = a then some v else Memory.lookup m a

/-- A byte of the schedule memory: the one last written, or the free value of the drawing (70_reset_and_hazards.md R203). -/
def Memory.byte (m : Memory) (draw a : Nat) : Byte := (m.lookup a).getD (Config.eksReset draw a)

/-- Store one byte, in place or inserted in order. -/
def Memory.write : Memory → Nat → Byte → Memory
  | [], a, v => [(a, v)]
  | (b, w) :: m, a, v =>
    if a < b then (a, v) :: (b, w) :: m
    else if a = b then (a, v) :: m
    else (b, w) :: Memory.write m a v

/-- Store the four bytes of `EKS[n]` (20_memory.md R42, R52). -/
def Memory.writeEntry (m : Memory) (n : Nat) (x : Lanes) : Memory :=
  (((m.write (eksAddress n 0) x.l0).write (eksAddress n 1) x.l1).write (eksAddress n 2) x.l2).write (eksAddress n 3) x.l3

/-- The four bytes of `EKS[n]` (20_memory.md R42, R52). -/
def Memory.entry (m : Memory) (draw n : Nat) : Lanes :=
  { l0 := m.byte draw (eksAddress n 0), l1 := m.byte draw (eksAddress n 1),
    l2 := m.byte draw (eksAddress n 2), l3 := m.byte draw (eksAddress n 3) }

/-- `EKS[n]` of a state. -/
def State.entry (s : State) (n : Nat) : Lanes := s.eks.entry s.eksDraw n

/-! ### Updates of the registers, one home each -/

/-- `STATUS` replaced. -/
def State.withStatus (s : State) (t : Status) : State := { s with status := t }

/-- `OP`, `VAR`, `HR` at an accept (44_host_commands.md R152). -/
def State.withSequencer (s : State) (op : OpCode) (v : Variant) (hr : BitVec 8) : State :=
  { s with op := op, var := v, hr := hr }

/-- `HR` counted on. -/
def State.withHr (s : State) (hr : BitVec 8) : State := { s with hr := hr }

/-- The scratch key and the accumulator. -/
def State.withKeyState (s : State) (ks : Vector Byte 32) (rc : Word) : State := { s with ks := ks, rc := rc }

/-- The two branches. -/
def State.withBranches (s : State) (l r : Lanes) : State := { s with l := l, r := r }

/-- `DOUT`, all 8 bytes together (10_state.md R18). -/
def State.withDout (s : State) (b : Vector Byte 8) : State := { s with dout := b }

/-- `SCHLEN`. -/
def State.withSchlen (s : State) (n : Byte) : State := { s with schlen := n }

/-- The schedule memory. -/
def State.withEks (s : State) (m : Memory) : State := { s with eks := m }

/-- What the last host read returned is the last of the results (30_encoding.md R75). -/
def State.pushResult (s : State) (v : Byte) : State := { s with results := s.results ++ [v] }

/-- The events still to come. -/
def State.withSchedule (s : State) (es : List Event) : State := { s with schedule := es }

/-- A register byte written by the host (44_host_commands.md R161, last line): only the writable registers store. -/
def State.storeByte (s : State) (t : Target) (v : Byte) : State :=
  match t with
  | .key i => { s with key := s.key.set i.val v i.isLt }
  | .din i => { s with din := s.din.set i.val v i.isLt }
  | .keylen => { s with keylen := v }
  | .blklen => { s with blklen := v }
  | .schlen => { s with schlen := v }
  | .eks n j => { s with eks := s.eks.write (eksAddress n.val j.val) v }
  | .dout _ => s
  | .cmd => s
  | .status => s
  | .unmapped => s

/-! ### Taking an exception, and leaving it -/

/-- Refusing a command with error `e` (60_exceptions.md R176), the core's only exception: `STATUS` alone changes. Nothing
is saved and control goes nowhere; there is no return (R178): the next command write while idle overwrites or clears it. -/
def refuse (e : CommandError) (s : State) : State := s.withStatus (s.status.refused e)

/-- A host write dropped because the core is busy (20_memory.md R50): `OVR` alone changes. -/
def dropWrite (s : State) : State := s.withStatus s.status.overrun

/-! ### Accept and finish -/

/-- The operation checks `KEYLEN` (44_host_commands.md R151). -/
def usesKey : OpCode → Bool
  | .expand => true
  | .encrypt => true
  | .decrypt => false
  | .reserved => false

/-- The operation checks `BLKLEN` (44_host_commands.md R151). -/
def usesBlock : OpCode → Bool
  | .expand => false
  | .encrypt => true
  | .decrypt => true
  | .reserved => false

/-- The operation checks `SCHLEN` (44_host_commands.md R151). -/
def usesTable : OpCode → Bool
  | .expand => false
  | .encrypt => false
  | .decrypt => true
  | .reserved => false

/-- The boundary checks of a command in their order; the first that fails is the one reported (44_host_commands.md R151,
60_exceptions.md R175). -/
def boundaryCheck (op : OpCode) (v : Variant) (s : State) : Option CommandError :=
  if usesKey op = true ∧ s.keylen.toNat ≠ klen v then some .invalidKeyLength
  else if usesBlock op = true ∧ s.blklen.toNat ≠ blockBytes then some .invalidBlockLength
  else if usesTable op = true ∧ s.schlen.toNat ≠ slen v then some .invalidScheduleLength
  else none

/-- Accept, common part (44_host_commands.md R152). -/
def acceptCommon (op : OpCode) (v : Variant) (s : State) : State :=
  (s.withStatus s.status.accepted).withSequencer op v 0

/-- Finish, common part (44_host_commands.md R154). -/
def finishCommon (s : State) : State := s.withStatus s.status.finished

/-- The scratch key loaded from `KEY`: bytes 0 to `klen - 1`, the others kept (42_key_schedule.md R115; 10_state.md R12). -/
def loadedKey (v : Variant) (key ks : Vector Byte 32) : Vector Byte 32 :=
  Vector.ofFn fun i => if i.val < klen v then key.get i else ks.get i

/-- `KS` loaded from `KEY` and `RC` set to 0 (42_key_schedule.md R115, 43_feistel_engine.md R131). -/
def loadKeyState (v : Variant) (s : State) : State := s.withKeyState (loadedKey v s.key s.ks) 0

/-- `L` and `R` loaded from `DIN` (43_feistel_engine.md R131, R135). -/
def loadBlock (s : State) : State := s.withBranches (leftOfBlock s.din) (rightOfBlock s.din)

/-- `DOUT` written with `L || R` (43_feistel_engine.md R133, R136). -/
def storeBlock (s : State) : State := s.withDout (blockOf s.l s.r)

/-- A command word `(op, v)` written to `CMD`: dropped while busy (20_memory.md R50); else checked, then refused or accepted
with the operation's own loads, all in one step (44_host_commands.md R150). -/
def issue (op : OpCode) (v : Variant) (loads : State → State) (s : State) : State :=
  if s.status.busy = true then dropWrite s
  else
    match boundaryCheck op v s with
    | some e => refuse e s
    | none => acceptCommon op v (loads s)

/-! ### Reset -/

/-- Reset asserted in any state (70_reset_and_hazards.md R200, R201): every piece of the core's state at its reset value,
`EKS` drawn anew (R203; log 4). What the host has still to do and has read is not the core's and stays (log 1, log 5). -/
def resetCore (s : State) : State :=
  { State.reset with eksDraw := s.eksDraw + 1, schedule := s.schedule, results := s.results }

end Sys2Proof.Machine
end

