-- ==== Sys2Proof/Machine/KeySchedule.lean ====
section
/-! DEFINITION. The additive key schedule (42_key_schedule.md): its units, and EXPAND's accept, step and finish. -/

namespace Sys2Proof.Machine

/-- `LE32(b0, b1, b2, b3)` (00_scope.md section 5; 20_memory.md R44): the byte of lowest index least significant. -/
def le32 (x : Lanes) : Word :=
  BitVec.ofNat 32 (x.l0.toNat + 256 * x.l1.toNat + 65536 * x.l2.toNat + 16777216 * x.l3.toNat)

/-- `BYTES_LE32(w)` (00_scope.md section 5): `w[7:0], w[15:8], w[23:16], w[31:24]`. -/
def bytesLe32 (w : Word) : Lanes :=
  { l0 := w.extractLsb' 0 8, l1 := w.extractLsb' 8 8, l2 := w.extractLsb' 16 8, l3 := w.extractLsb' 24 8 }

/-- A key length is positive and at most 32, so an index modulo it is an index of the key registers. -/
theorem mod_klen_lt (v : Variant) (i : Nat) : i % klen v < 32 :=
  match v with
  | .k128 => Nat.lt_trans (Nat.mod_lt i (by decide)) (by decide)
  | .k256 => Nat.mod_lt i (by decide)

/-- `RotateKeyByte` on the first `klen` bytes, the others kept (42_key_schedule.md R110): byte `i` becomes byte
`(i + 3) mod klen`. -/
def rotateKeyByte (v : Variant) (k : Vector Byte 32) : Vector Byte 32 :=
  Vector.ofFn fun i => if i.val < klen v then k.get ⟨(i.val + 3) % klen v, mod_klen_lt v _⟩ else k.get i

/-- The leading four bytes of a key. -/
def leadingBytes (k : Vector Byte 32) : Lanes := { l0 := k[0], l1 := k[1], l2 := k[2], l3 := k[3] }

/-- The leading four bytes replaced. -/
def setLeadingBytes (k : Vector Byte 32) (x : Lanes) : Vector Byte 32 :=
  (((k.set 0 x.l0).set 1 x.l1).set 2 x.l2).set 3 x.l3

/-- `DeriveSubkey(k, rc) = (k', sk)` (42_key_schedule.md R112): the sum is the subkey and the new leading four bytes. -/
def deriveSubkey (k : Vector Byte 32) (rc : Word) : Vector Byte 32 × Lanes :=
  let sk := bytesLe32 (le32 (leadingBytes k) + rc)
  (setLeadingBytes k sk, sk)

/-- What one schedule step leaves: the new scratch key, the new accumulator, the subkey (42_key_schedule.md R113). -/
structure KeyStep where
  ks : Vector Byte 32
  rc : Word
  sk : Lanes
deriving DecidableEq, Repr

/-- `KStep(KS, RC, v)` (42_key_schedule.md R113): rotate, increment the accumulator, derive. -/
def kStep (v : Variant) (ks : Vector Byte 32) (rc : Word) : KeyStep :=
  let rc' := rc + delta
  let derived := deriveSubkey (rotateKeyByte v ks) rc'
  { ks := derived.1, rc := rc', sk := derived.2 }

/-- The loads of EXPAND's accept (42_key_schedule.md R115): the scratch key, the accumulator, and `SCHLEN <- 0`. -/
def expandLoads (v : Variant) (s : State) : State := (loadKeyState v s).withSchlen 0

/-- EXPAND.K128 written to `CMD` (44_host_commands.md R150 to R152; 42_key_schedule.md R115). -/
def execExpandK128 (s : State) : Host.Outcome State Fault Refusal := .next (issue .expand .k128 (expandLoads .k128) s)

/-- EXPAND.K256 written to `CMD` (44_host_commands.md R150 to R152; 42_key_schedule.md R115). -/
def execExpandK256 (s : State) : Host.Outcome State Fault Refusal := .next (issue .expand .k256 (expandLoads .k256) s)

/-- Schedule step of EXPAND (42_key_schedule.md R116): subkey `n = HR + 1` into `EKS[n]`. -/
def expandStep (s : State) : State :=
  let n := s.hr.toNat + 1
  let k := kStep s.var s.ks s.rc
  ((s.withKeyState k.ks k.rc).withEks (s.eks.writeEntry n k.sk)).withHr (BitVec.ofNat 8 n)

/-- Finish of EXPAND (42_key_schedule.md R117, 44_host_commands.md R154). -/
def expandFinish (s : State) : State := finishCommon (s.withSchlen (BitVec.ofNat 8 (slen s.var)))

end Sys2Proof.Machine
end

