-- ==== Sys2Proof/Machine/Nonlinear.lean ====
section
/-! DEFINITION. The nonlinear layer Beta (40_nonlinear_beta.md). -/

namespace Sys2Proof.Machine

/-- `Beta(a)`, the bitsliced formulas (40_nonlinear_beta.md R90); `~~~` inverts all 8 bits. -/
def beta (a : Lanes) : Lanes :=
  { l0 := ~~~(a.l0 ^^^ a.l1 ^^^ a.l3 ^^^ (a.l2 &&& a.l3))
    l1 := a.l0 ^^^ (a.l0 &&& a.l1) ^^^ a.l2 ^^^ (a.l0 &&& a.l3) ^^^ (a.l1 &&& a.l3)
          ^^^ (a.l0 &&& a.l1 &&& a.l3) ^^^ (a.l2 &&& a.l3) ^^^ (a.l0 &&& a.l2 &&& a.l3)
          ^^^ (a.l1 &&& a.l2 &&& a.l3)
    l2 := a.l1 ^^^ a.l2 ^^^ (a.l0 &&& a.l2) ^^^ a.l3 ^^^ (a.l0 &&& a.l1 &&& a.l3)
          ^^^ (a.l1 &&& a.l2 &&& a.l3)
    l3 := a.l1 ^^^ (a.l0 &&& a.l1) ^^^ (a.l0 &&& a.l2) ^^^ (a.l0 &&& a.l3) ^^^ (a.l2 &&& a.l3)
          ^^^ (a.l0 &&& a.l2 &&& a.l3) }

/-- The S-box table (40_nonlinear_beta.md R92). -/
def sboxTable : Vector (BitVec 4) 16 := #v[1, 2, 12, 5, 7, 8, 10, 15, 4, 13, 11, 14, 9, 6, 0, 3]

/-- `S[x]` (40_nonlinear_beta.md R92). -/
def sbox (x : BitVec 4) : BitVec 4 := sboxTable.get x.toFin

/-- The nibble at bit position `p` of four lanes, lane 3 most significant (40_nonlinear_beta.md R91). -/
def nibbleAt (a : Lanes) (p : Nat) : BitVec 4 :=
  BitVec.ofBool (a.l3.getLsbD p) ++ BitVec.ofBool (a.l2.getLsbD p) ++ BitVec.ofBool (a.l1.getLsbD p) ++
    BitVec.ofBool (a.l0.getLsbD p)

/-- The byte whose bit `p` is bit `j` of the `p`-th of eight nibbles. -/
def laneOfNibbles (y : Nat → BitVec 4) (j : Nat) : Byte :=
  BitVec.ofBool ((y 7).getLsbD j) ++ BitVec.ofBool ((y 6).getLsbD j) ++ BitVec.ofBool ((y 5).getLsbD j) ++
    BitVec.ofBool ((y 4).getLsbD j) ++ BitVec.ofBool ((y 3).getLsbD j) ++ BitVec.ofBool ((y 2).getLsbD j) ++
    BitVec.ofBool ((y 1).getLsbD j) ++ BitVec.ofBool ((y 0).getLsbD j)

/-- Beta as a table lookup at each of the 8 bit positions, the other realisation (40_nonlinear_beta.md R91, R92). The
engine uses `beta`; which of the two is built is not observable (R94). -/
def betaByTable (a : Lanes) : Lanes :=
  let y := fun p => sbox (nibbleAt a p)
  { l0 := laneOfNibbles y 0, l1 := laneOfNibbles y 1, l2 := laneOfNibbles y 2, l3 := laneOfNibbles y 3 }

end Sys2Proof.Machine
end

