-- ==== Sys2Proof/Machine/Feistel.lean ====
section
/-! DEFINITION. The Feistel half-round orchestrator (43_feistel_engine.md): F, and the accept, half-rounds and finish of
ENCRYPT and DECRYPT. -/

namespace Sys2Proof.Machine

/-- The half-round function `F(X, SK)` (43_feistel_engine.md R130). -/
def halfRoundF (x sk : Lanes) : Lanes := switchLanes (beta ((shiftLanes x).xor sk))

/-- The loads of ENCRYPT's accept (43_feistel_engine.md R131). -/
def encryptLoads (v : Variant) (s : State) : State := loadBlock (loadKeyState v s)

/-- The loads of DECRYPT's accept (43_feistel_engine.md R135): the block alone. -/
def decryptLoads (s : State) : State := loadBlock s

/-- ENCRYPT.K128 written to `CMD` (44_host_commands.md R150 to R152; 43_feistel_engine.md R131). -/
def execEncryptK128 (s : State) : Host.Outcome State Fault Refusal := .next (issue .encrypt .k128 (encryptLoads .k128) s)

/-- ENCRYPT.K256 written to `CMD` (44_host_commands.md R150 to R152; 43_feistel_engine.md R131). -/
def execEncryptK256 (s : State) : Host.Outcome State Fault Refusal := .next (issue .encrypt .k256 (encryptLoads .k256) s)

/-- DECRYPT.K128 written to `CMD` (44_host_commands.md R150 to R152; 43_feistel_engine.md R135). -/
def execDecryptK128 (s : State) : Host.Outcome State Fault Refusal := .next (issue .decrypt .k128 decryptLoads s)

/-- DECRYPT.K256 written to `CMD` (44_host_commands.md R150 to R152; 43_feistel_engine.md R135). -/
def execDecryptK256 (s : State) : Host.Outcome State Fault Refusal := .next (issue .decrypt .k256 decryptLoads s)

/-- The branches after encryption half-round `n` with subkey `sk` (43_feistel_engine.md R132): X = L, Y = R when `n` is
odd; X = R, Y = L when it is even. -/
def encryptBranches (n : Nat) (sk l r : Lanes) : Lanes × Lanes :=
  if n % 2 = 1 then (l, r.xor (halfRoundF l sk)) else (l.xor (halfRoundF r sk), r)

/-- The branches after decryption half-round `n` with subkey `sk` (43_feistel_engine.md R134, 90_conflicts.md C1): X = R,
Y = L when `n` is odd; X = L, Y = R when it is even. -/
def decryptBranches (n : Nat) (sk l r : Lanes) : Lanes × Lanes :=
  if n % 2 = 1 then (l.xor (halfRoundF r sk), r) else (l, r.xor (halfRoundF l sk))

/-- Half-round step of ENCRYPT (43_feistel_engine.md R132), number `n = HR + 1`, the subkey derived in the step. -/
def encryptHalfRound (s : State) : State :=
  let n := s.hr.toNat + 1
  let k := kStep s.var s.ks s.rc
  let b := encryptBranches n k.sk s.l s.r
  ((s.withKeyState k.ks k.rc).withBranches b.1 b.2).withHr (BitVec.ofNat 8 n)

/-- Half-round step of DECRYPT (43_feistel_engine.md R134), number `n = HR + 1`, the subkey read from
`EKS[2*rounds + 1 - n]`. -/
def decryptHalfRound (s : State) : State :=
  let n := s.hr.toNat + 1
  let b := decryptBranches n (s.entry (halfRounds s.var + 1 - n)) s.l s.r
  (s.withBranches b.1 b.2).withHr (BitVec.ofNat 8 n)

/-- Finish of ENCRYPT (43_feistel_engine.md R133, 44_host_commands.md R154). -/
def encryptFinish (s : State) : State := finishCommon (storeBlock s)

/-- Finish of DECRYPT (43_feistel_engine.md R136, 44_host_commands.md R154). -/
def decryptFinish (s : State) : State := finishCommon (storeBlock s)

end Sys2Proof.Machine
end

