-- ==== Sys2Proof/Machine/Dispatch.lean ====
section
/-! DEFINITION. A command word written to CMD: one arm per constructor of Instr. -/

namespace Sys2Proof.Machine

def exec (i : Instr) (s : State) : Host.Outcome State Fault Refusal :=
  match i with
  | .expandK128 => Sys2Proof.Machine.execExpandK128 s
  | .encryptK128 => Sys2Proof.Machine.execEncryptK128 s
  | .decryptK128 => Sys2Proof.Machine.execDecryptK128 s
  | .expandK256 => Sys2Proof.Machine.execExpandK256 s
  | .encryptK256 => Sys2Proof.Machine.execEncryptK256 s
  | .decryptK256 => Sys2Proof.Machine.execDecryptK256 s

end Sys2Proof.Machine
end

