-- ==== Sys2Proof/Machine/Engine.lean ====
section
/-! DEFINITION. The engine: which of its steps is enabled, and taking it (44_host_commands.md R153). -/

namespace Sys2Proof.Machine

/-- Half-round or schedule step of the running operation (44_host_commands.md R153, rows with `HR < 2*rounds(VAR)`). -/
def workStep (s : State) : Host.Outcome State Fault Refusal :=
  match s.op with
  | .reserved => .fault .engineStuck
  | .expand => .next (expandStep s)
  | .encrypt => .next (encryptHalfRound s)
  | .decrypt => .next (decryptHalfRound s)

/-- Finish of the running operation (44_host_commands.md R153, rows with `HR = 2*rounds(VAR)`). -/
def finishStep (s : State) : Host.Outcome State Fault Refusal :=
  match s.op with
  | .reserved => .fault .engineStuck
  | .expand => .next (expandFinish s)
  | .encrypt => .next (encryptFinish s)
  | .decrypt => .next (decryptFinish s)

/-- The engine's turn (44_host_commands.md R153): none while idle, so no state changes; else the one enabled step. What R158
calls unreachable is a fault of its own (log 6). -/
def engineStep (s : State) : Host.Outcome State Fault Refusal :=
  if s.status.busy = true then
    if s.hr.toNat < halfRounds s.var then workStep s
    else if s.hr.toNat = halfRounds s.var then finishStep s
    else .fault .engineStuck
  else .next s

end Sys2Proof.Machine
end

