-- ==== Sys2Proof/Machine/HostPort.lean ====
section
/-! DEFINITION. The host's transactions (44_host_commands.md R160, R161, R150) and the events of the interleaving. -/

namespace Sys2Proof.Machine

/-- What a read of a target returns (44_host_commands.md R160; 20_memory.md R49 for `CMD` and what is not mapped). -/
def readTarget (t : Target) (s : State) : Byte :=
  match t with
  | .key i => s.key.get i
  | .din i => s.din.get i
  | .dout i => s.dout.get i
  | .cmd => 0x00
  | .status => s.status.toByte
  | .keylen => s.keylen
  | .blklen => s.blklen
  | .schlen => s.schlen
  | .eks n j => s.eks.byte s.eksDraw (eksAddress n.val j.val)
  | .unmapped => 0x00

/-- Host read of one byte, `MemRead(addr, 1)` (44_host_commands.md R160). -/
def hostRead (a : Addr) (s : State) : Byte := readTarget (addressMap a) s

/-- A byte written to `CMD` (44_host_commands.md R150): a command word is issued, any other byte is an IllegalCommand; while
busy either is dropped undecoded (20_memory.md R50). -/
def commandWrite (c : Byte) (s : State) : Host.Outcome State Fault Refusal :=
  if s.status.busy = true then .next (dropWrite s)
  else
    match decode c with
    | .ok i => exec i s
    | .error _ => .next (refuse .illegalCommand s)

/-- Host write of one byte, `MemWrite(addr, 1, v)` (44_host_commands.md R161), its cases in the order given there. -/
def hostWrite (a : Addr) (v : Byte) (s : State) : Host.Outcome State Fault Refusal :=
  if (addressMap a).writable = false then .next s
  else if s.status.busy = true then .next (dropWrite s)
  else if addressMap a = .cmd then commandWrite v s
  else .next (s.storeByte (addressMap a) v)

/-- One event of the interleaving (20_memory.md R54), already taken off the schedule. `RUN` (30_encoding.md R75) stays at
its head while the core is busy, and leaves, changing nothing, once it is idle (log 11). -/
def performEvent (e : Event) (s : State) : Host.Outcome State Fault Refusal :=
  match e with
  | .read a => .next (s.pushResult (hostRead a s))
  | .write a v => hostWrite a v s
  | .engine => engineStep s
  | .run => if s.status.busy = true then engineStep (s.withSchedule (.run :: s.schedule)) else .next s
  | .reset => .next (resetCore s)

/-- `CMD`'s host address (20_memory.md R41; 30_encoding.md R70). -/
def cmdAddress : Addr := 0x030

/-- The state whose next event writes byte `c` to `CMD`, with the core idle, as a command word is only decoded then
(44_host_commands.md R150). Log 2. -/
def placeCommand (s : State) (c : Byte) : State :=
  { s with status := { s.status with busy := false }, schedule := .write cmdAddress c :: s.schedule }

end Sys2Proof.Machine
end

