-- ==== Sys2Proof/Machine/Step.lean ====
section
/-! DEFINITION. One step of the two agents, and the placing of a command word where the next step takes it. -/

namespace Sys2Proof.Machine

/-- The next event of the schedule happens; with none left, only the engine moves (44_host_commands.md R153, R155;
20_memory.md R54; log 1). -/
def step (s : State) : Host.Outcome State Fault Refusal :=
  match s.schedule with
  | [] => engineStep s
  | e :: rest => performEvent e (s.withSchedule rest)

/-- `s` with a command word as the next thing the host writes to `CMD` (log 2): a command word is one byte. -/
def State.withFetchWord (s : State) (nbits w : Nat) : State := placeCommand s (BitVec.ofNat 8 (w % 2 ^ nbits))

end Sys2Proof.Machine
end

