-- ==== Sys2Proof/Machine/Cipher.lean ====
section
/-! DEFINITION. The three operations as pure functions of their inputs (00_scope.md R5), in no way sequenced by `HR`: what
the engine's steps are held against. No step uses them. -/

namespace Sys2Proof.Machine

/-- `(KS_n, RC_n)` and `sk_n` after `n` schedule steps from key `k` (42_key_schedule.md R114); at `n = 0` the subkey field
means nothing. -/
def keyStateAfter (v : Variant) (k : Vector Byte 32) : Nat → KeyStep
  | 0 => { ks := k, rc := 0, sk := .zero }
  | n + 1 => kStep v (keyStateAfter v k n).ks (keyStateAfter v k n).rc

/-- Subkey `sk_n` of key `k`, `n ≥ 1` (42_key_schedule.md R114). -/
def subkey (v : Variant) (k : Vector Byte 32) (n : Nat) : Lanes := (keyStateAfter v k n).sk

/-- The branches after `n` encryption half-rounds under the subkeys `sk 1, sk 2, …` (43_feistel_engine.md R132, R137). -/
def encryptAfter (sk : Nat → Lanes) (l r : Lanes) : Nat → Lanes × Lanes
  | 0 => (l, r)
  | n + 1 => encryptBranches (n + 1) (sk (n + 1)) (encryptAfter sk l r n).1 (encryptAfter sk l r n).2

/-- The branches after `n` decryption half-rounds of `total`, under the table `sk` read backwards from entry `total`
(43_feistel_engine.md R134, R137). -/
def decryptAfter (total : Nat) (sk : Nat → Lanes) (l r : Lanes) : Nat → Lanes × Lanes
  | 0 => (l, r)
  | n + 1 =>
    decryptBranches (n + 1) (sk (total + 1 - (n + 1))) (decryptAfter total sk l r n).1 (decryptAfter total sk l r n).2

/-- ENCRYPT of a block under the subkeys `sk` (43_feistel_engine.md R131 to R133). -/
def encryptBlockWith (v : Variant) (sk : Nat → Lanes) (b : Vector Byte 8) : Vector Byte 8 :=
  blockOf (encryptAfter sk (leftOfBlock b) (rightOfBlock b) (halfRounds v)).1
    (encryptAfter sk (leftOfBlock b) (rightOfBlock b) (halfRounds v)).2

/-- ENCRYPT of a block under a key (43_feistel_engine.md R131 to R133). -/
def encryptBlock (v : Variant) (k : Vector Byte 32) (b : Vector Byte 8) : Vector Byte 8 :=
  encryptBlockWith v (subkey v k) b

/-- DECRYPT of a block with a table (43_feistel_engine.md R134 to R136). -/
def decryptBlock (v : Variant) (table : Nat → Lanes) (b : Vector Byte 8) : Vector Byte 8 :=
  blockOf (decryptAfter (halfRounds v) table (leftOfBlock b) (rightOfBlock b) (halfRounds v)).1
    (decryptAfter (halfRounds v) table (leftOfBlock b) (rightOfBlock b) (halfRounds v)).2

end Sys2Proof.Machine
end

