-- ==== Sys2Proof/Machine/Script.lean ====
section
/-! DEFINITION. Host scripts (30_encoding.md R75, R76): what each line expands to, and the predicted reads. -/

namespace Sys2Proof.Machine

/-- One host write per byte, at rising addresses (20_memory.md R46). -/
def writesFrom (a : Nat) : List Byte → List Event
  | [] => []
  | b :: bs => .write (BitVec.ofNat 11 a) b :: writesFrom (a + 1) bs

/-- One host read per address, `k` of them, at rising addresses. -/
def readsFrom (a : Nat) : Nat → List Event
  | 0 => []
  | k + 1 => .read (BitVec.ofNat 11 a) :: readsFrom (a + 1) k

/-- The events a script line stands for (30_encoding.md R75, R76). `WAIT` is the reading R76 gives for a model without
time: `RUN`, then one read of `STATUS` (log 11). -/
def scriptEvents : ScriptLine → List Event
  | .wr a v => [.write a v]
  | .rd a => [.read a]
  | .rdExpect a _ => [.read a]
  | .run => [.run]
  | .reset => [.reset]
  | .command i => [.write cmdAddress (encode i)]
  | .loadKey bytes => writesFrom 0x000 bytes ++ [.write 0x032 (BitVec.ofNat 8 bytes.length)]
  | .loadBlk bytes => writesFrom 0x020 bytes ++ [.write 0x033 0x08]
  | .wait => [.run, .read 0x031]
  | .readBlk => readsFrom 0x028 8
  | .readEks n => readsFrom (0x400 + 4 * n) 4
  | .loadEks n b0 b1 b2 b3 => writesFrom (0x400 + 4 * n) [b0, b1, b2, b3]

/-- The events of a whole script, in order. -/
def eventsOfScript (script : List ScriptLine) : List Event := script.flatMap scriptEvents

/-- The reads of a line with the value predicted for each, where the line asserts one (30_encoding.md R75). -/
def predictedReads : ScriptLine → List (Option Byte)
  | .wr _ _ => []
  | .rd _ => [none]
  | .rdExpect _ v => [some v]
  | .run => []
  | .reset => []
  | .command _ => []
  | .loadKey _ => []
  | .loadBlk _ => []
  | .wait => [none]
  | .readBlk => List.replicate 8 none
  | .readEks _ => List.replicate 4 none
  | .loadEks _ _ _ _ _ => []

/-- Every asserted read returned what the script predicts (30_encoding.md R75). -/
def predictionsHold : List (Option Byte) → List Byte → Bool
  | [], [] => true
  | none :: ps, _ :: bs => predictionsHold ps bs
  | some p :: ps, b :: bs => decide (p = b) && predictionsHold ps bs
  | [], _ :: _ => false
  | none :: _, [] => false
  | some _ :: _, [] => false

/-- The state in which the host is about to run a script. -/
def withScript (s : State) (script : List ScriptLine) : State := s.withSchedule (eventsOfScript script)

end Sys2Proof.Machine
end

