-- ==== Sys2Proof/Safety.lean ====
section
/-! DEFINITION. What counts as a legal state and a safe run. -/

namespace Sys2Proof

open Sys2Proof.Machine

/-- `k` steps of the machine, stopping at the first fault or refusal: `Host.Core.run` of the core, on the machine's own types. -/
def runSteps : Nat → State → Host.Outcome State Fault Refusal
  | 0, s => .next s
  | k + 1, s =>
    match step s with
    | .next t => runSteps k t
    | .fault x => .fault x
    | .refused x => .refused x

/-- The running operation's sequencer is legal (10_state.md R14, R15; 44_host_commands.md R158): an operation is latched and
`HR` counts at most `2*rounds(VAR)`. -/
abbrev SequencerLegal (s : State) : Prop :=
  s.status.busy = true → s.op ≠ .reserved ∧ s.hr.toNat ≤ halfRounds s.var

/-- While EXPAND runs the table is marked invalid (42_key_schedule.md R115, D16). -/
abbrev TableMarked (s : State) : Prop :=
  s.status.busy = true → s.op = .expand → s.schlen = 0

/-- While an operation with a key schedule runs, `RC = (HR * DELTA) mod 2^32` (42_key_schedule.md R111). -/
abbrev AccumulatorCounts (s : State) : Prop :=
  s.status.busy = true → (s.op = .expand ∨ s.op = .encrypt) → s.rc = BitVec.ofNat 32 (s.hr.toNat * delta.toNat)

/-- The invariant of the machine: legal flags (10_state.md R21), a legal sequencer, the marked table, the counting
accumulator, and the schedule memory in its canonical form. -/
structure Invariant (s : State) : Prop where
  flags : s.status.legal
  sequencer : SequencerLegal s
  table : TableMarked s
  accumulator : AccumulatorCounts s
  memory : s.eks.wf

/-- No operation runs (10_state.md R20). -/
abbrev Idle (s : State) : Prop := s.status.busy = false

/-- The two states agree on everything that decides which step is taken and what it reports, and on nothing that holds key,
block or table bytes (70_reset_and_hazards.md R219): flags, sequencer, length registers, events to come. -/
structure SameControl (s t : State) : Prop where
  status : s.status = t.status
  hr : s.hr = t.hr
  op : s.op = t.op
  var : s.var = t.var
  keylen : s.keylen = t.keylen
  blklen : s.blklen = t.blklen
  schlen : s.schlen = t.schlen
  schedule : s.schedule = t.schedule

/-- The host can see no difference: every address reads the same, and so did every read so far (10_state.md R28). -/
structure HostSeesSame (s t : State) : Prop where
  reads : ∀ a : Addr, hostRead a s = hostRead a t
  results : s.results = t.results

/-- The two states agree on everything but the engine-private registers (10_state.md R28). -/
structure SameButPrivate (s t : State) : Prop where
  key : s.key = t.key
  din : s.din = t.din
  dout : s.dout = t.dout
  status : s.status = t.status
  keylen : s.keylen = t.keylen
  blklen : s.blklen = t.blklen
  schlen : s.schlen = t.schlen
  eks : s.eks = t.eks
  eksDraw : s.eksDraw = t.eksDraw
  schedule : s.schedule = t.schedule
  results : s.results = t.results

/-- An event of the host alone or of the engine alone, one atomic step (20_memory.md R54): neither `RUN` nor reset. -/
def Event.isAtomicAccess : Event → Bool
  | .read _ => true
  | .write _ _ => true
  | .engine => true
  | .run => false
  | .reset => false

/-- The engine steps in a sequence of events. -/
def engineTurns (es : List Event) : Nat := es.countP (fun e => decide (e = .engine))

/-- A run of any length from `s` never stops: no fault and no refusal (43_feistel_engine.md R140, 60_exceptions.md R177). -/
def SafeFrom (s : State) : Prop := ∀ k : Nat, ∃ t : State, runSteps k s = .next t

end Sys2Proof
end

