-- ==== Sys2Proof/Certificates/Slice0/Obligations.lean ====
section
/-! DEFINITION. The statements for the provers. A statement whose docstring says DESIGN CHOICE rests on the log entry it names. -/

open Sys2Proof Sys2Proof.Machine

/-! ### Encoding and fetching -/

/-- 30_encoding.md R71: the six bytes, bit by bit, the command word each one is, and its operation and variant with that
variant's key length, rounds and table entries. -/
def Obligations.TableBytesDecode : Prop :=
  decode 0b00000001 = .ok .expandK128 ∧ decode 0b00000010 = .ok .encryptK128 ∧ decode 0b00000011 = .ok .decryptK128 ∧
  decode 0b00000101 = .ok .expandK256 ∧ decode 0b00000110 = .ok .encryptK256 ∧ decode 0b00000111 = .ok .decryptK256 ∧
  [Instr.expandK128, .encryptK128, .decryptK128, .expandK256, .encryptK256, .decryptK256].map (fun i => (i.opCode, i.variant)) =
    [(.expand, .k128), (.encrypt, .k128), (.decrypt, .k128), (.expand, .k256), (.encrypt, .k256), (.decrypt, .k256)] ∧
  (klen .k128 = 16 ∧ rounds .k128 = 32 ∧ slen .k128 = 65) ∧ (klen .k256 = 32 ∧ rounds .k256 = 64 ∧ slen .k256 = 129)

/-- 30_encoding.md R70, R71: decoding and encoding agree, in both directions, on every byte and every command word. -/
def Obligations.DecodeEncodeAgree : Prop :=
  ∀ (i : Instr) (c : Byte), decode c = .ok i ↔ c = encode i

/-- 60_exceptions.md R171 (the bytes of 30_encoding.md R73): a byte with `OP = 0` or a bit of `RSV` set, written to `CMD`
while idle, is refused with IllegalCommand, whatever the length registers hold; nothing else changes. -/
def Obligations.IllegalByteRefused : Prop :=
  ∀ (s : State) (c : Byte) (rest : List Event), s.schedule = .write 0x030 c :: rest → Idle s →
    (c.extractLsb' 0 2 = 0 ∨ c.extractLsb' 3 5 ≠ 0) →
    step s = .next { s with
      schedule := rest, status := { s.status with err := true, errcode := 1, done := false } }

/-- A step runs the decoded instruction (44_host_commands.md R150): when the next event writes a command word to `CMD`, the
step is `exec` of that word on the state with the event taken off; and so for a word placed by `withFetchWord`, which also
makes the core idle (DESIGN CHOICE, log 2). -/
def Obligations.StepRunsDecodedWord : Prop :=
  (∀ (s : State) (c : Byte) (i : Instr) (rest : List Event),
    s.schedule = .write 0x030 c :: rest → decode c = .ok i → step s = exec i { s with schedule := rest }) ∧
  (∀ (s : State) (w : Nat) (i : Instr), decodeTableWord 8 w = some i →
    step (s.withFetchWord 8 w) = exec i { s with status := { s.status with busy := false } })

/-- What every other event of the schedule does in one step (20_memory.md R54; 30_encoding.md R75; the schedule itself is a
DESIGN CHOICE, logs 1 and 11). -/
def Obligations.StepFollowsSchedule : Prop :=
  (∀ s : State, s.schedule = [] → step s = engineStep s) ∧
  (∀ (s : State) (rest : List Event), s.schedule = .engine :: rest → step s = engineStep { s with schedule := rest }) ∧
  (∀ (s : State) (rest : List Event), s.schedule = .run :: rest → s.status.busy = true → step s = engineStep s) ∧
  (∀ (s : State) (rest : List Event), s.schedule = .run :: rest → Idle s → step s = .next { s with schedule := rest })

/-! ### Reset -/

/-- 10_state.md R31: the state after reset, register by register; every byte of `EKS` reads as the free value, for every
drawing of it; the core is idle and the first command word written is decoded normally. -/
def Obligations.ResetValues : Prop :=
  State.reset.status.toByte = 0x00 ∧ Idle State.reset ∧ State.reset.status.done = false ∧ State.reset.status.err = false ∧
  State.reset.status.errcode = 0 ∧ State.reset.status.ovr = false ∧
  (∀ i : Fin 32, State.reset.key.get i = 0x00 ∧ State.reset.ks.get i = 0x00) ∧
  (∀ i : Fin 8, State.reset.din.get i = 0x00 ∧ State.reset.dout.get i = 0x00) ∧
  State.reset.keylen = 0x00 ∧ State.reset.blklen = 0x00 ∧ State.reset.schlen = 0x00 ∧
  State.reset.l = ⟨0, 0, 0, 0⟩ ∧ State.reset.r = ⟨0, 0, 0, 0⟩ ∧ State.reset.rc = 0 ∧ State.reset.hr = 0 ∧
  fieldOfOpCode State.reset.op = 0 ∧ fieldOfVariant State.reset.var = 0 ∧
  (∀ (draw n j : Nat), n ≤ 128 → j ≤ 3 →
    hostRead (BitVec.ofNat 11 (0x400 + 4 * n + j)) { State.reset with eksDraw := draw } =
      Config.eksReset draw (0x400 + 4 * n + j)) ∧
  (∀ (c : Byte) (i : Instr), decode c = .ok i →
    step { State.reset with schedule := [.write 0x030 c] } = exec i State.reset)

/-- 70_reset_and_hazards.md R200, R203: a reset at any time, in any state, leaves the reset state with the contents of `EKS`
drawn anew; the host's remaining events and what it has read are not the core's (DESIGN CHOICE, logs 1, 4, 5). -/
def Obligations.ResetFromAnyState : Prop :=
  ∀ (s : State) (rest : List Event), s.schedule = .reset :: rest →
    step s = .next { State.reset with eksDraw := s.eksDraw + 1, schedule := rest, results := s.results }

/-- 70_reset_and_hazards.md R201: a reset while busy abandons the operation: no engine step is enabled any more, `DONE` is not
set, `DOUT` is zero and `SCHLEN = 0`; and nothing else stops a running operation: a step that is no reset and leaves the core
idle is its finish. -/
def Obligations.ResetAbandonsOperation : Prop :=
  (∀ (s : State) (rest : List Event), s.schedule = .reset :: rest → s.status.busy = true →
    ∃ t : State, step s = .next t ∧ t.status.busy = false ∧ t.status.done = false ∧
      (∀ i : Fin 8, t.dout.get i = 0x00) ∧ t.schlen = 0 ∧ engineStep t = .next t) ∧
  (∀ s t : State, s.status.busy = true → (∀ rest : List Event, s.schedule ≠ .reset :: rest) → step s = .next t →
    t.status.busy = false → s.hr.toNat = 2 * rounds s.var ∧ t.status.done = true)

/-- 70_reset_and_hazards.md R203: from a reset on, a byte of `EKS` reads as one and the same free value, whatever is written
elsewhere, until it is written itself. -/
def Obligations.EksByteFixedUntilWritten : Prop :=
  ∀ (s t : State) (n j : Nat), n ≤ 128 → j ≤ 3 → Idle s → s.eks.lookup (0x400 + 4 * n + j) = none →
    hostRead (BitVec.ofNat 11 (0x400 + 4 * n + j)) s = Config.eksReset s.eksDraw (0x400 + 4 * n + j) ∧
    ∀ (a : Addr) (v : Byte), a ≠ 0x030 → hostWrite a v s = .next t →
      hostRead (BitVec.ofNat 11 (0x400 + 4 * n + j)) t =
        if a = BitVec.ofNat 11 (0x400 + 4 * n + j) then v else Config.eksReset s.eksDraw (0x400 + 4 * n + j)

/-! ### Host transactions -/

/-- 44_host_commands.md R160: what a host read returns at every address, and that it changes no state of the core. -/
def Obligations.HostReadReturns : Prop :=
  ∀ s : State,
    (∀ i : Fin 32, hostRead (BitVec.ofNat 11 i.val) s = s.key.get i) ∧
    (∀ i : Fin 8, hostRead (BitVec.ofNat 11 (0x020 + i.val)) s = s.din.get i) ∧
    (∀ i : Fin 8, hostRead (BitVec.ofNat 11 (0x028 + i.val)) s = s.dout.get i) ∧
    hostRead 0x030 s = 0x00 ∧ hostRead 0x031 State.reset = 0x00 ∧
    hostRead 0x031 s = 0#1 ++ BitVec.ofBool s.status.ovr ++ s.status.errcode ++ BitVec.ofBool s.status.err ++
      BitVec.ofBool s.status.done ++ BitVec.ofBool s.status.busy ∧
    hostRead 0x032 s = s.keylen ∧ hostRead 0x033 s = s.blklen ∧ hostRead 0x034 s = s.schlen ∧
    (∀ n j : Nat, n ≤ 128 → j ≤ 3 →
      hostRead (BitVec.ofNat 11 (0x400 + 4 * n + j)) s = s.eks.byte s.eksDraw (0x400 + 4 * n + j)) ∧
    (∀ a : Addr, (0x035 ≤ a.toNat ∧ a.toNat ≤ 0x3FF) ∨ 0x604 ≤ a.toNat → hostRead a s = 0x00) ∧
    (∀ (a : Addr) (rest : List Event), s.schedule = .read a :: rest →
      step s = .next { s with schedule := rest, results := s.results ++ [hostRead a s] })

/-- 10_state.md R20: the byte `STATUS` reads as, bit by bit. -/
def Obligations.StatusByteLayout : Prop :=
  ∀ t : Status, t.toByte.getLsbD 0 = t.busy ∧ t.toByte.getLsbD 1 = t.done ∧ t.toByte.getLsbD 2 = t.err ∧
    t.toByte.extractLsb' 3 3 = t.errcode ∧ t.toByte.getLsbD 6 = t.ovr ∧ t.toByte.getLsbD 7 = false

/-- 20_memory.md R41, R42: names and addresses correspond one to one, and what has no name is not mapped. -/
def Obligations.AddressMapRoundTrips : Prop :=
  (∀ (t : Target) (a : Addr), t.address = some a → addressMap a = t) ∧
  (∀ a : Addr, addressMap a ≠ .unmapped → (addressMap a).address = some a) ∧
  (∀ a : Addr, addressMap a = .unmapped ↔ (0x035 ≤ a.toNat ∧ a.toNat ≤ 0x3FF) ∨ 0x604 ≤ a.toNat)

/-- 20_memory.md R42: where the bytes of the schedule table are. -/
def Obligations.EksBytesAddressed : Prop :=
  (∀ (n : Fin 129) (j : Fin 4), addressMap (BitVec.ofNat 11 (0x400 + 4 * n.val + j.val)) = .eks n j) ∧
  addressMap 0x400 = .eks 0 0 ∧ addressMap 0x403 = .eks 0 3 ∧ addressMap 0x404 = .eks 1 0 ∧ addressMap 0x407 = .eks 1 3 ∧
  addressMap 0x500 = .eks 64 0 ∧ addressMap 0x503 = .eks 64 3 ∧ addressMap 0x600 = .eks 128 0 ∧ addressMap 0x603 = .eks 128 3

/-- 20_memory.md R49: accesses the map does not back, busy or idle. -/
def Obligations.UnbackedAccessInert : Prop :=
  (∀ (s : State) (a : Addr) (v : Byte) (rest : List Event), s.schedule = .write a v :: rest →
    ((0x028 ≤ a.toNat ∧ a.toNat ≤ 0x02F) ∨ a = 0x031 ∨ (0x035 ≤ a.toNat ∧ a.toNat ≤ 0x3FF) ∨ 0x604 ≤ a.toNat) →
    step s = .next { s with schedule := rest }) ∧
  (∀ (s : State) (a : Addr), (a = 0x030 ∨ (0x035 ≤ a.toNat ∧ a.toNat ≤ 0x3FF) ∨ 0x604 ≤ a.toNat) → hostRead a s = 0x00)

/-- 20_memory.md R50: while busy a host write to any writable location, `CMD` among them, changes `OVR` and nothing else. -/
def Obligations.BusyWriteDropped : Prop :=
  ∀ (s : State) (a : Addr) (v : Byte) (rest : List Event), s.schedule = .write a v :: rest → s.status.busy = true →
    (a.toNat ≤ 0x027 ∨ a = 0x030 ∨ (0x032 ≤ a.toNat ∧ a.toNat ≤ 0x034) ∨ (0x400 ≤ a.toNat ∧ a.toNat ≤ 0x603)) →
    step s = .next { s with schedule := rest, status := { s.status with ovr := true } }

/-- 44_host_commands.md R161, 20_memory.md R48: an idle write to a writable location other than `CMD` stores the byte there;
every other address reads as before, the flags and the private registers among what is unchanged. -/
def Obligations.IdleWriteStoresOneByte : Prop :=
  ∀ (s : State) (a : Addr) (v : Byte) (rest : List Event), s.schedule = .write a v :: rest → Idle s →
    (a.toNat ≤ 0x027 ∨ (0x032 ≤ a.toNat ∧ a.toNat ≤ 0x034) ∨ (0x400 ≤ a.toNat ∧ a.toNat ≤ 0x603)) →
    ∃ t : State, step s = .next t ∧ hostRead a t = v ∧ (∀ b : Addr, b ≠ a → hostRead b t = hostRead b s) ∧
      t.l = s.l ∧ t.r = s.r ∧ t.ks = s.ks ∧ t.rc = s.rc ∧ t.hr = s.hr ∧ t.op = s.op ∧ t.var = s.var ∧
      t.status = s.status ∧ t.eksDraw = s.eksDraw ∧ t.schedule = rest ∧ t.results = s.results

/-! ### Commands: accept -/

/-- 42_key_schedule.md R115: EXPAND is accepted when idle with the variant's key length, and what its accept does; all other
state, every byte of `EKS` among it, is unchanged. -/
def Obligations.ExpandAccepted : Prop :=
  (∀ s : State, Idle s → s.keylen = 16 →
    exec .expandK128 s = .next { s with
      ks := Vector.ofFn fun i : Fin 32 => if i.val < 16 then s.key.get i else s.ks.get i
      rc := 0, schlen := 0, hr := 0, op := .expand, var := .k128
      status := { s.status with busy := true, done := false, err := false, errcode := 0 } }) ∧
  (∀ s : State, Idle s → s.keylen = 32 →
    exec .expandK256 s = .next { s with
      ks := s.key, rc := 0, schlen := 0, hr := 0, op := .expand, var := .k256
      status := { s.status with busy := true, done := false, err := false, errcode := 0 } })

/-- 43_feistel_engine.md R131: ENCRYPT is accepted when idle with the variant's key length and a block length of 8, and what
its accept does; all other state is unchanged. -/
def Obligations.EncryptAccepted : Prop :=
  (∀ s : State, Idle s → s.keylen = 16 → s.blklen = 8 →
    exec .encryptK128 s = .next { s with
      l := ⟨s.din[0], s.din[1], s.din[2], s.din[3]⟩, r := ⟨s.din[4], s.din[5], s.din[6], s.din[7]⟩
      ks := Vector.ofFn fun i : Fin 32 => if i.val < 16 then s.key.get i else s.ks.get i
      rc := 0, hr := 0, op := .encrypt, var := .k128
      status := { s.status with busy := true, done := false, err := false, errcode := 0 } }) ∧
  (∀ s : State, Idle s → s.keylen = 32 → s.blklen = 8 →
    exec .encryptK256 s = .next { s with
      l := ⟨s.din[0], s.din[1], s.din[2], s.din[3]⟩, r := ⟨s.din[4], s.din[5], s.din[6], s.din[7]⟩
      ks := s.key, rc := 0, hr := 0, op := .encrypt, var := .k256
      status := { s.status with busy := true, done := false, err := false, errcode := 0 } })

/-- 43_feistel_engine.md R135: DECRYPT is accepted when idle with a block length of 8 and the variant's table length, and
what its accept does; all other state is unchanged, and `KEYLEN` and `KEY` have no say. -/
def Obligations.DecryptAccepted : Prop :=
  (∀ s : State, Idle s → s.blklen = 8 → s.schlen = 65 →
    exec .decryptK128 s = .next { s with
      l := ⟨s.din[0], s.din[1], s.din[2], s.din[3]⟩, r := ⟨s.din[4], s.din[5], s.din[6], s.din[7]⟩
      hr := 0, op := .decrypt, var := .k128
      status := { s.status with busy := true, done := false, err := false, errcode := 0 } }) ∧
  (∀ s : State, Idle s → s.blklen = 8 → s.schlen = 129 →
    exec .decryptK256 s = .next { s with
      l := ⟨s.din[0], s.din[1], s.din[2], s.din[3]⟩, r := ⟨s.din[4], s.din[5], s.din[6], s.din[7]⟩
      hr := 0, op := .decrypt, var := .k256
      status := { s.status with busy := true, done := false, err := false, errcode := 0 } })

/-- The frame of the six command words, accepted, refused or dropped (10_state.md R16 to R18, R23, R24; 20_memory.md R53):
whatever the word, no host register but `STATUS` and EXPAND's `SCHLEN` changes, and every byte of `EKS` reads as before;
EXPAND leaves the branches alone, DECRYPT the scratch key and the accumulator, and K128 the bytes 16 to 31 of the scratch key. -/
def Obligations.CommandFrame : Prop :=
  ∀ (i : Instr) (s t : State), exec i s = .next t →
    t.key = s.key ∧ t.din = s.din ∧ t.dout = s.dout ∧ t.keylen = s.keylen ∧ t.blklen = s.blklen ∧
    (i.opCode ≠ .expand → t.schlen = s.schlen) ∧
    (∀ a : Nat, t.eks.byte t.eksDraw a = s.eks.byte s.eksDraw a) ∧
    (i.opCode = .expand → t.l = s.l ∧ t.r = s.r) ∧
    (i.opCode = .decrypt → t.ks = s.ks ∧ t.rc = s.rc) ∧
    (i.variant = .k128 → ∀ j : Fin 32, 16 ≤ j.val → t.ks.get j = s.ks.get j) ∧
    (Idle s → t.status.ovr = s.status.ovr) ∧
    t.eksDraw = s.eksDraw ∧ t.schedule = s.schedule ∧ t.results = s.results

/-! ### Commands: refusal -/

/-- 60_exceptions.md R172, R176: a wrong `KEYLEN` refuses EXPAND and ENCRYPT with code 2 and changes `STATUS` alone; DECRYPT
never reports that code. -/
def Obligations.InvalidKeyLengthRefused : Prop :=
  (∀ (i : Instr) (s : State), (i = .expandK128 ∨ i = .encryptK128) → Idle s → s.keylen ≠ 16 →
    exec i s = .next { s with status := { s.status with err := true, errcode := 2, done := false } }) ∧
  (∀ (i : Instr) (s : State), (i = .expandK256 ∨ i = .encryptK256) → Idle s → s.keylen ≠ 32 →
    exec i s = .next { s with status := { s.status with err := true, errcode := 2, done := false } }) ∧
  (∀ (i : Instr) (s t : State), (i = .decryptK128 ∨ i = .decryptK256) → Idle s → exec i s = .next t →
    t.status.errcode ≠ 2)

/-- 60_exceptions.md R173, R176: a wrong `BLKLEN` refuses ENCRYPT (its key length being right) and DECRYPT with code 3 and
changes `STATUS` alone; EXPAND never reports that code. -/
def Obligations.InvalidBlockLengthRefused : Prop :=
  (∀ s : State, Idle s → s.keylen = 16 → s.blklen ≠ 8 →
    exec .encryptK128 s = .next { s with status := { s.status with err := true, errcode := 3, done := false } }) ∧
  (∀ s : State, Idle s → s.keylen = 32 → s.blklen ≠ 8 →
    exec .encryptK256 s = .next { s with status := { s.status with err := true, errcode := 3, done := false } }) ∧
  (∀ (i : Instr) (s : State), (i = .decryptK128 ∨ i = .decryptK256) → Idle s → s.blklen ≠ 8 →
    exec i s = .next { s with status := { s.status with err := true, errcode := 3, done := false } }) ∧
  (∀ (i : Instr) (s t : State), (i = .expandK128 ∨ i = .expandK256) → Idle s → exec i s = .next t →
    t.status.errcode ≠ 3)

/-- 60_exceptions.md R174, R176: a wrong `SCHLEN` refuses DECRYPT (its block length being right) with code 4 and changes
`STATUS` alone, after reset for one; EXPAND and ENCRYPT never report that code. -/
def Obligations.InvalidScheduleLengthRefused : Prop :=
  (∀ s : State, Idle s → s.blklen = 8 → s.schlen ≠ 65 →
    exec .decryptK128 s = .next { s with status := { s.status with err := true, errcode := 4, done := false } }) ∧
  (∀ s : State, Idle s → s.blklen = 8 → s.schlen ≠ 129 →
    exec .decryptK256 s = .next { s with status := { s.status with err := true, errcode := 4, done := false } }) ∧
  (∀ i : Instr, (i = .decryptK128 ∨ i = .decryptK256) →
    exec i { State.reset with blklen := 8 } =
      .next { State.reset with blklen := 8, status := { State.reset.status with err := true, errcode := 4 } }) ∧
  (∀ (i : Instr) (s t : State), i.opCode ≠ .decrypt → Idle s → exec i s = .next t → t.status.errcode ≠ 4)

/-- 60_exceptions.md R175: when two lengths are wrong, key length wins over block length on ENCRYPT and block length over
schedule length on DECRYPT; an illegal byte wins over all of them. -/
def Obligations.RefusalPriority : Prop :=
  (∀ (i : Instr) (s t : State), i.opCode = .encrypt → Idle s → s.keylen.toNat ≠ klen i.variant → s.blklen ≠ 8 →
    exec i s = .next t → t.status.errcode = 2) ∧
  (∀ (i : Instr) (s t : State), i.opCode = .decrypt → Idle s → s.blklen ≠ 8 → s.schlen.toNat ≠ slen i.variant →
    exec i s = .next t → t.status.errcode = 3) ∧
  (∀ (c : Byte) (s t : State), Idle s → (∀ i : Instr, c ≠ encode i) → commandWrite c s = .next t → t.status.errcode = 1)

/-- 44_host_commands.md R150: a byte written to `CMD` while idle is either wholly accepted, exactly when it is a command word
and the lengths that word looks at are right, or has no effect on anything but `STATUS`. -/
def Obligations.CommandWhollyAcceptedOrInert : Prop :=
  ∀ (s : State) (c : Byte), Idle s →
    ∃ t : State, commandWrite c s = .next t ∧
      (t.status.busy = true ↔ ∃ i : Instr, c = encode i ∧
        (i.opCode ≠ .decrypt → s.keylen.toNat = klen i.variant) ∧
        (i.opCode ≠ .expand → s.blklen = 8) ∧
        (i.opCode = .decrypt → s.schlen.toNat = slen i.variant)) ∧
      (t.status.busy = false → ∃ e : BitVec 3, e ≠ 0 ∧
        t = { s with status := { s.status with err := true, errcode := e, done := false } })

/-- 20_memory.md R50: each of the six command words written while busy is dropped: `OVR` alone changes. -/
def Obligations.BusyCommandDropped : Prop :=
  ∀ (i : Instr) (s : State), s.status.busy = true →
    exec i s = .next { s with status := { s.status with ovr := true } }

/-- 60_exceptions.md R178: `ERR` and `ERRCODE` stay through every step of an idle core that is neither a write to `CMD` nor a
reset; a command write then either clears them or puts its own code, and a reset clears them. -/
def Obligations.ErrorReportStays : Prop :=
  (∀ s t : State, Idle s → (∀ (v : Byte) (rest : List Event), s.schedule ≠ .write 0x030 v :: rest) →
    (∀ rest : List Event, s.schedule ≠ .reset :: rest) → step s = .next t →
    t.status.err = s.status.err ∧ t.status.errcode = s.status.errcode) ∧
  (∀ (s t : State) (c : Byte), Idle s → commandWrite c s = .next t →
    (t.status.busy = true ∧ t.status.err = false ∧ t.status.errcode = 0) ∨
    (t.status.busy = false ∧ t.status.err = true ∧
      (((∀ i : Instr, c ≠ encode i) ∧ t.status.errcode = 1) ∨
       ∃ i : Instr, c = encode i ∧
        ((i.opCode ≠ .decrypt ∧ s.keylen.toNat ≠ klen i.variant ∧ t.status.errcode = 2) ∨
         (i.opCode ≠ .expand ∧ s.blklen ≠ 8 ∧ t.status.errcode = 3) ∨
         (i.opCode = .decrypt ∧ s.schlen.toNat ≠ slen i.variant ∧ t.status.errcode = 4))))) ∧
  (∀ (s : State) (rest : List Event), s.schedule = .reset :: rest →
    ∃ t : State, step s = .next t ∧ t.status.err = false ∧ t.status.errcode = 0)

/-! ### The units -/

/-- 40_nonlinear_beta.md R91, R92: at each bit position Beta is the S-box of the table, and the two realisations agree. -/
def Obligations.BetaIsTheSbox : Prop :=
  (∀ (a : Lanes) (p : Nat), p < 8 → nibbleAt (beta a) p = sbox (nibbleAt a p)) ∧
  (∀ a : Lanes, betaByTable a = beta a) ∧
  (List.range 16).map (fun x => (sbox (BitVec.ofNat 4 x)).toNat) = [1, 2, 12, 5, 7, 8, 10, 15, 4, 13, 11, 14, 9, 6, 0, 3]

/-- 40_nonlinear_beta.md R93: the S-box takes each value once, and Beta is a bijection on four-lane values. -/
def Obligations.BetaIsBijective : Prop :=
  Function.Bijective sbox ∧ Function.Bijective beta

/-- 41_diffusion.md R100: bit `p` of lane `j` becomes bit `(p + ROT[j]) mod 8`, lanes do not mix; corner cases, example. -/
def Obligations.ShiftLanesRotates : Prop :=
  (∀ (a : Lanes) (p : Nat), p < 8 →
    (shiftLanes a).l0.getLsbD p = a.l0.getLsbD p ∧
    (shiftLanes a).l1.getLsbD ((p + 1) % 8) = a.l1.getLsbD p ∧
    (shiftLanes a).l2.getLsbD ((p + 3) % 8) = a.l2.getLsbD p ∧
    (shiftLanes a).l3.getLsbD ((p + 5) % 8) = a.l3.getLsbD p) ∧
  rol8 0x80 1 = 0x01 ∧ rol8 0x80 3 = 0x04 ∧ rol8 0x80 5 = 0x10 ∧
  (∀ n : Nat, n < 8 → rol8 0x00 n = 0x00 ∧ rol8 0xFF n = 0xFF) ∧
  shiftLanes ⟨0x12, 0x34, 0x56, 0x78⟩ = ⟨0x12, 0x68, 0xB2, 0x0F⟩ ∧
  shiftLanes ⟨0x81, 0x81, 0x81, 0x81⟩ = ⟨0x81, 0x03, 0x0C, 0x30⟩

/-- 41_diffusion.md R101, R103 to R105: SwitchLanes moves each lane one index up; both units and their inverses undo each
other on every four-lane value; four switches are the identity. -/
def Obligations.DiffusionInvertible : Prop :=
  (∀ a : Lanes, switchLanes a = ⟨a.l3, a.l0, a.l1, a.l2⟩) ∧
  (∀ a : Lanes, invShiftLanes a = ⟨a.l0, ror8 a.l1 1, ror8 a.l2 3, ror8 a.l3 5⟩) ∧
  (∀ a : Lanes, invSwitchLanes a = ⟨a.l1, a.l2, a.l3, a.l0⟩) ∧
  (∀ a : Lanes, invShiftLanes (shiftLanes a) = a ∧ shiftLanes (invShiftLanes a) = a) ∧
  (∀ a : Lanes, invSwitchLanes (switchLanes a) = a ∧ switchLanes (invSwitchLanes a) = a) ∧
  (∀ a : Lanes, switchLanes (switchLanes (switchLanes (switchLanes a))) = a) ∧
  (∀ b : Byte, switchLanes ⟨b, b, b, b⟩ = ⟨b, b, b, b⟩) ∧
  invShiftLanes ⟨0x12, 0x68, 0xB2, 0x0F⟩ = ⟨0x12, 0x34, 0x56, 0x78⟩ ∧
  switchLanes ⟨0x12, 0x34, 0x56, 0x78⟩ = ⟨0x78, 0x12, 0x34, 0x56⟩ ∧
  switchLanes ⟨0x01, 0x02, 0x03, 0x04⟩ = ⟨0x04, 0x01, 0x02, 0x03⟩ ∧
  invSwitchLanes ⟨0x78, 0x12, 0x34, 0x56⟩ = ⟨0x12, 0x34, 0x56, 0x78⟩

/-- 43_feistel_engine.md R130: `F` step by step, with its corner case and example. -/
def Obligations.HalfRoundFunction : Prop :=
  (∀ x sk : Lanes, halfRoundF x sk = switchLanes (beta
    ⟨(shiftLanes x).l0 ^^^ sk.l0, (shiftLanes x).l1 ^^^ sk.l1, (shiftLanes x).l2 ^^^ sk.l2, (shiftLanes x).l3 ^^^ sk.l3⟩)) ∧
  halfRoundF ⟨0, 0, 0, 0⟩ ⟨0, 0, 0, 0⟩ = ⟨0x00, 0xFF, 0x00, 0x00⟩ ∧
  halfRoundF ⟨0x12, 0x34, 0x56, 0x78⟩ ⟨0xB9, 0x79, 0x37, 0x9E⟩ = ⟨0x10, 0x55, 0xBF, 0x84⟩

/-- 42_key_schedule.md R110: byte `i` of the rotated key is byte `(i + 3) mod klen`; in K128 bytes 16 to 31 take no part;
`klen` rotations, and no fewer, are the identity; the rule's two examples. -/
def Obligations.KeyRotation : Prop :=
  (∀ (v : Variant) (k : Vector Byte 32) (i : Fin 32) (h : (i.val + 3) % klen v < 32), i.val < klen v →
    (rotateKeyByte v k).get i = k.get ⟨(i.val + 3) % klen v, h⟩) ∧
  (∀ (v : Variant) (k : Vector Byte 32) (i : Fin 32), klen v ≤ i.val → (rotateKeyByte v k).get i = k.get i) ∧
  (∀ (v : Variant) (k : Vector Byte 32), Nat.repeat (rotateKeyByte v) (klen v) k = k) ∧
  (∀ (v : Variant) (m : Nat), 0 < m → m < klen v → ∃ k : Vector Byte 32, Nat.repeat (rotateKeyByte v) m k ≠ k) ∧
  ((rotateKeyByte .k128 (Vector.ofFn fun i => BitVec.ofNat 8 i.val)).toList.take 16 =
    [0x03, 0x04, 0x05, 0x06, 0x07, 0x08, 0x09, 0x0A, 0x0B, 0x0C, 0x0D, 0x0E, 0x0F, 0x00, 0x01, 0x02]) ∧
  ((rotateKeyByte .k256 (Vector.ofFn fun i => BitVec.ofNat 8 i.val)).toList =
    (List.range' 3 29).map (BitVec.ofNat 8) ++ [0x00, 0x01, 0x02])

/-- 42_key_schedule.md R112 (20_memory.md R44): the subkey is the little-endian sum modulo 2^32, it becomes the leading four
bytes, the others keep their values; carries, wraps and example of the rule. -/
def Obligations.SubkeyDerivation : Prop :=
  (∀ (k : Vector Byte 32) (rc : Word),
    let sk := (deriveSubkey k rc).2
    sk.l0.toNat + 256 * sk.l1.toNat + 65536 * sk.l2.toNat + 16777216 * sk.l3.toNat =
      (k[0].toNat + 256 * k[1].toNat + 65536 * k[2].toNat + 16777216 * k[3].toNat + rc.toNat) % 2 ^ 32) ∧
  (∀ (k : Vector Byte 32) (rc : Word),
    let d := deriveSubkey k rc
    d.1.get 0 = d.2.l0 ∧ d.1.get 1 = d.2.l1 ∧ d.1.get 2 = d.2.l2 ∧ d.1.get 3 = d.2.l3 ∧
      ∀ i : Fin 32, 4 ≤ i.val → d.1.get i = k.get i) ∧
  bytesLe32 (le32 ⟨0xFF, 0x00, 0x00, 0x00⟩ + 0x9E3779B9) = ⟨0xB8, 0x7A, 0x37, 0x9E⟩ ∧
  bytesLe32 (le32 ⟨0x47, 0x86, 0xC8, 0x61⟩ + 0x9E3779B9) = ⟨0x00, 0x00, 0x00, 0x00⟩ ∧
  bytesLe32 (le32 ⟨0xFF, 0xFF, 0xFF, 0xFF⟩ + 0x9E3779B9) = ⟨0xB8, 0x79, 0x37, 0x9E⟩ ∧
  bytesLe32 (le32 ⟨0x03, 0x04, 0x05, 0x06⟩ + 0x9E3779B9) = ⟨0xBC, 0x7D, 0x3C, 0xA4⟩

/-- 42_key_schedule.md R113: one schedule step rotates, increments, derives, in that order, and in K128 leaves bytes 16 to
31 alone; the rule's examples. -/
def Obligations.ScheduleStepComposes : Prop :=
  (∀ (v : Variant) (ks : Vector Byte 32) (rc : Word),
    (kStep v ks rc).rc = rc + 0x9E3779B9 ∧
    (kStep v ks rc).ks = (deriveSubkey (rotateKeyByte v ks) (rc + 0x9E3779B9)).1 ∧
    (kStep v ks rc).sk = (deriveSubkey (rotateKeyByte v ks) (rc + 0x9E3779B9)).2) ∧
  (∀ (v : Variant) (ks : Vector Byte 32) (rc : Word) (i : Fin 32), klen v ≤ i.val → (kStep v ks rc).ks.get i = ks.get i) ∧
  (kStep .k128 (Vector.ofFn fun i => BitVec.ofNat 8 i.val) 0).sk = ⟨0xBC, 0x7D, 0x3C, 0xA4⟩ ∧
  (kStep .k128 (Vector.ofFn fun i => BitVec.ofNat 8 i.val) 0).rc = 0x9E3779B9 ∧
  (kStep .k128 (Vector.ofFn fun i => BitVec.ofNat 8 i.val) 0).ks.toList.take 16 =
    [0xBC, 0x7D, 0x3C, 0xA4, 0x07, 0x08, 0x09, 0x0A, 0x0B, 0x0C, 0x0D, 0x0E, 0x0F, 0x00, 0x01, 0x02] ∧
  (kStep .k128 (Vector.replicate 32 0) 0).sk = ⟨0xB9, 0x79, 0x37, 0x9E⟩ ∧
  (kStep .k128 (kStep .k128 (Vector.replicate 32 0) 0).ks 0x9E3779B9).sk = ⟨0x10, 0xF4, 0x6E, 0x3C⟩

/-- 42_key_schedule.md R111: a schedule step adds `DELTA` before it derives, so after `n` of them from 0 the accumulator is
`n * DELTA` modulo 2^32 and the first subkey is made with `DELTA`; the rule's values. -/
def Obligations.AccumulatorValues : Prop :=
  (∀ (v : Variant) (ks : Vector Byte 32) (rc : Word), (kStep v ks rc).rc = rc + 0x9E3779B9) ∧
  (∀ (v : Variant) (k : Vector Byte 32), subkey v k 1 = (deriveSubkey (rotateKeyByte v k) 0x9E3779B9).2) ∧
  (∀ (v : Variant) (k : Vector Byte 32) (n : Nat),
    (keyStateAfter v k n).rc.toNat = (n * 0x9E3779B9) % 2 ^ 32) ∧
  (∀ (v : Variant) (k : Vector Byte 32),
    (keyStateAfter v k 1).rc = 0x9E3779B9 ∧ (keyStateAfter v k 2).rc = 0x3C6EF372 ∧ (keyStateAfter v k 3).rc = 0xDAA66D2B ∧
    (keyStateAfter v k 4).rc = 0x78DDE6E4 ∧ (keyStateAfter v k 64).rc = 0x8DDE6E40 ∧ (keyStateAfter v k 128).rc = 0x1BBCDC80)

/-! ### Engine steps -/

/-- 44_host_commands.md R153: which engine step is enabled when. -/
def Obligations.EngineStepSelection : Prop :=
  ∀ s : State,
    (s.status.busy = false → engineStep s = .next s) ∧
    (s.status.busy = true → s.hr.toNat < 2 * rounds s.var → s.op = .expand → engineStep s = .next (expandStep s)) ∧
    (s.status.busy = true → s.hr.toNat < 2 * rounds s.var → s.op = .encrypt → engineStep s = .next (encryptHalfRound s)) ∧
    (s.status.busy = true → s.hr.toNat < 2 * rounds s.var → s.op = .decrypt → engineStep s = .next (decryptHalfRound s)) ∧
    (s.status.busy = true → s.hr.toNat = 2 * rounds s.var → s.op = .expand → engineStep s = .next (expandFinish s)) ∧
    (s.status.busy = true → s.hr.toNat = 2 * rounds s.var → s.op = .encrypt → engineStep s = .next (encryptFinish s)) ∧
    (s.status.busy = true → s.hr.toNat = 2 * rounds s.var → s.op = .decrypt → engineStep s = .next (decryptFinish s))

/-- 44_host_commands.md R158: the engine stops in the states the rule calls unreachable and in no others (that it stops
there is a DESIGN CHOICE, log 6). -/
def Obligations.EngineStuckExactlyWhereUnreachable : Prop :=
  ∀ s : State, engineStep s = .fault .engineStuck ↔
    s.status.busy = true ∧ (s.op = .reserved ∨ 2 * rounds s.var < s.hr.toNat)

/-- 42_key_schedule.md R116: the schedule step of EXPAND; every byte of `EKS` outside entry `n`, and all other state, is
unchanged; if `KS` and `RC` are those after `HR` steps from key `k`, the entry written is subkey `n` of `k`. -/
def Obligations.ExpandStepWritesOneEntry : Prop :=
  ∀ s : State, s.status.busy = true → s.op = .expand → s.hr.toNat < 2 * rounds s.var →
    ∃ t : State, engineStep s = .next t ∧
      t.ks = (kStep s.var s.ks s.rc).ks ∧ t.rc = (kStep s.var s.ks s.rc).rc ∧
      t.entry (s.hr.toNat + 1) = (kStep s.var s.ks s.rc).sk ∧ t.hr.toNat = s.hr.toNat + 1 ∧
      (∀ a : Nat, (a < 0x400 + 4 * (s.hr.toNat + 1) ∨ 0x400 + 4 * (s.hr.toNat + 1) + 3 < a) →
        t.eks.byte t.eksDraw a = s.eks.byte s.eksDraw a) ∧
      t.entry 0 = s.entry 0 ∧
      t = { s with ks := t.ks, rc := t.rc, eks := t.eks, hr := t.hr } ∧
      (∀ k : Vector Byte 32, s.ks = (keyStateAfter s.var k s.hr.toNat).ks → s.rc = (keyStateAfter s.var k s.hr.toNat).rc →
        t.entry (s.hr.toNat + 1) = subkey s.var k (s.hr.toNat + 1))

/-- 43_feistel_engine.md R132: the half-round of ENCRYPT; exactly one branch changes, all other state but `KS`, `RC` and `HR`
is unchanged; half-round `n` uses subkey `n`; the two half-rounds of the rule's example. -/
def Obligations.EncryptHalfRoundStep : Prop :=
  (∀ s : State, s.status.busy = true → s.op = .encrypt → s.hr.toNat < 2 * rounds s.var → (s.hr.toNat + 1) % 2 = 1 →
    ∃ t : State, engineStep s = .next t ∧ t.hr.toNat = s.hr.toNat + 1 ∧
      t = { s with
        ks := (kStep s.var s.ks s.rc).ks, rc := (kStep s.var s.ks s.rc).rc, hr := t.hr
        r := s.r.xor (halfRoundF s.l (kStep s.var s.ks s.rc).sk) }) ∧
  (∀ s : State, s.status.busy = true → s.op = .encrypt → s.hr.toNat < 2 * rounds s.var → (s.hr.toNat + 1) % 2 = 0 →
    ∃ t : State, engineStep s = .next t ∧ t.hr.toNat = s.hr.toNat + 1 ∧
      t = { s with
        ks := (kStep s.var s.ks s.rc).ks, rc := (kStep s.var s.ks s.rc).rc, hr := t.hr
        l := s.l.xor (halfRoundF s.r (kStep s.var s.ks s.rc).sk) }) ∧
  (∀ (s : State) (k : Vector Byte 32), s.ks = (keyStateAfter s.var k s.hr.toNat).ks →
    s.rc = (keyStateAfter s.var k s.hr.toNat).rc → (kStep s.var s.ks s.rc).sk = subkey s.var k (s.hr.toNat + 1)) ∧
  encryptAfter (subkey .k128 (Vector.replicate 32 0)) ⟨0, 0, 0, 0⟩ ⟨0, 0, 0, 0⟩ 1 =
    (⟨0x00, 0x00, 0x00, 0x00⟩, ⟨0xEF, 0xB7, 0x39, 0xE9⟩) ∧
  encryptAfter (subkey .k128 (Vector.replicate 32 0)) ⟨0, 0, 0, 0⟩ ⟨0, 0, 0, 0⟩ 2 =
    (⟨0xA6, 0x9B, 0xC3, 0x9A⟩, ⟨0xEF, 0xB7, 0x39, 0xE9⟩)

/-- 43_feistel_engine.md R134 (90_conflicts.md C1): the half-round of DECRYPT, its table index and the branch it updates; all
other state, `KS`, `RC` and `EKS` among it, is unchanged; half-round `n` undoes encryption half-round `2*rounds + 1 - n`; the
two half-rounds of the rule's example. -/
def Obligations.DecryptHalfRoundStep : Prop :=
  (∀ s : State, s.status.busy = true → s.op = .decrypt → s.hr.toNat < 2 * rounds s.var → (s.hr.toNat + 1) % 2 = 1 →
    ∃ t : State, engineStep s = .next t ∧ t.hr.toNat = s.hr.toNat + 1 ∧
      t = { s with hr := t.hr, l := s.l.xor (halfRoundF s.r (s.entry (2 * rounds s.var + 1 - (s.hr.toNat + 1)))) }) ∧
  (∀ s : State, s.status.busy = true → s.op = .decrypt → s.hr.toNat < 2 * rounds s.var → (s.hr.toNat + 1) % 2 = 0 →
    ∃ t : State, engineStep s = .next t ∧ t.hr.toNat = s.hr.toNat + 1 ∧
      t = { s with hr := t.hr, r := s.r.xor (halfRoundF s.l (s.entry (2 * rounds s.var + 1 - (s.hr.toNat + 1)))) }) ∧
  (∀ (v : Variant) (n : Nat) (sk l r : Lanes), 1 ≤ n → n ≤ 2 * rounds v →
    decryptBranches n sk (encryptBranches (2 * rounds v + 1 - n) sk l r).1
      (encryptBranches (2 * rounds v + 1 - n) sk l r).2 = (l, r)) ∧
  decryptAfter 64 (subkey .k128 (Vector.replicate 32 0)) ⟨0x0B, 0x19, 0xA6, 0xDE⟩ ⟨0x7D, 0x4C, 0x69, 0x06⟩ 1 =
    (⟨0xA4, 0xC4, 0x40, 0x48⟩, ⟨0x7D, 0x4C, 0x69, 0x06⟩) ∧
  decryptAfter 64 (subkey .k128 (Vector.replicate 32 0)) ⟨0x0B, 0x19, 0xA6, 0xDE⟩ ⟨0x7D, 0x4C, 0x69, 0x06⟩ 2 =
    (⟨0xA4, 0xC4, 0x40, 0x48⟩, ⟨0x99, 0x39, 0xA5, 0x23⟩)

/-- 44_host_commands.md R154 with the own part of each finish (42_key_schedule.md R117, 43_feistel_engine.md R133, R136):
`BUSY` falls, `DONE` rises and the result is written in the same step; all other state keeps its value, and while an
operation runs `ERR` and `ERRCODE` are already 0. -/
def Obligations.FinishWritesResult : Prop :=
  (∀ s : State, s.status.busy = true → s.op = .expand → s.hr.toNat = 2 * rounds s.var →
    engineStep s = .next { s with
      schlen := if s.var = .k128 then 65 else 129
      status := { s.status with busy := false, done := true } }) ∧
  (∀ s : State, s.status.busy = true → (s.op = .encrypt ∨ s.op = .decrypt) → s.hr.toNat = 2 * rounds s.var →
    engineStep s = .next { s with
      dout := #v[s.l.l0, s.l.l1, s.l.l2, s.l.l3, s.r.l0, s.r.l1, s.r.l2, s.r.l3]
      status := { s.status with busy := false, done := true } }) ∧
  (∀ s : State, Sys2Proof.Invariant s → s.status.busy = true → s.status.err = false ∧ s.status.errcode = 0)

/-- 20_memory.md R53, R52; 10_state.md R12, R16, R26: what an engine step leaves alone, in every state. -/
def Obligations.EngineFrame : Prop :=
  ∀ s t : State, engineStep s = .next t →
    t.key = s.key ∧ t.din = s.din ∧ t.keylen = s.keylen ∧ t.blklen = s.blklen ∧ t.op = s.op ∧ t.var = s.var ∧
    t.status.ovr = s.status.ovr ∧ t.status.err = s.status.err ∧ t.status.errcode = s.status.errcode ∧
    t.eksDraw = s.eksDraw ∧ t.schedule = s.schedule ∧ t.results = s.results ∧
    (∀ a : Nat, a < 0x404 ∨ 0x604 ≤ a → t.eks.byte t.eksDraw a = s.eks.byte s.eksDraw a) ∧
    (s.op ≠ .expand → (∀ a : Nat, t.eks.byte t.eksDraw a = s.eks.byte s.eksDraw a) ∧ t.schlen = s.schlen) ∧
    (s.op = .expand → t.l = s.l ∧ t.r = s.r ∧ t.dout = s.dout) ∧
    (s.op = .decrypt → t.ks = s.ks ∧ t.rc = s.rc) ∧
    (s.var = .k128 → ∀ i : Fin 32, 16 ≤ i.val → t.ks.get i = s.ks.get i)

/-! ### Whole operations -/

/-- 44_host_commands.md R155: an accepted command finishes after exactly `2*rounds + 1` engine steps, 65 or 129: busy, with
`HR` counting, at every step before, then idle with `DONE`. -/
def Obligations.AcceptedCommandFinishes : Prop :=
  ∀ s : State, s.schedule = [] → s.status.busy = true → s.status.done = false → s.op ≠ .reserved → s.hr = 0 →
    (∀ k : Nat, k ≤ 2 * rounds s.var →
      ∃ t : State, runSteps k s = .next t ∧ t.status.busy = true ∧ t.status.done = false ∧ t.hr.toNat = k) ∧
    (∃ t : State, runSteps (2 * rounds s.var + 1) s = .next t ∧ t.status.busy = false ∧ t.status.done = true) ∧
    (2 * rounds s.var + 1 = if s.var = .k128 then 65 else 129)

/-- 42_key_schedule.md R117 (with R115, R116, R114): an EXPAND issued while idle with the variant's key length leaves subkey
`n` of `KEY` in every `EKS[n]`, `1 ≤ n ≤ 2*rounds`, after `2*rounds + 1` engine steps; every byte of `EKS` outside those entries,
`KEY`, `DIN`, `DOUT`, `KEYLEN` and `BLKLEN` as they were; `SCHLEN` and `STATUS` as the rule gives them; the rule's example. -/
def Obligations.ExpandBuildsTable : Prop :=
  (∀ (i : Instr) (s : State), i.opCode = .expand → Idle s → s.schedule = [] → s.keylen.toNat = klen i.variant →
    ∃ t u : State, exec i s = .next t ∧ runSteps (2 * rounds i.variant + 1) t = .next u ∧
      (∀ k : Nat, k ≤ 2 * rounds i.variant → ∃ w : State, runSteps k t = .next w ∧ w.status.busy = true) ∧
      (∀ n : Nat, 1 ≤ n → n ≤ 2 * rounds i.variant → u.entry n = subkey i.variant s.key n) ∧
      (∀ a : Nat, a < 0x404 ∨ 0x404 + 4 * (2 * rounds i.variant) ≤ a → u.eks.byte u.eksDraw a = s.eks.byte s.eksDraw a) ∧
      u.schlen.toNat = slen i.variant ∧ u.key = s.key ∧ u.dout = s.dout ∧ u.din = s.din ∧ u.keylen = s.keylen ∧
      u.blklen = s.blklen ∧
      u.status = { busy := false, done := true, err := false, errcode := 0, ovr := s.status.ovr }) ∧
  subkey .k128 (Vector.replicate 32 0) 1 = ⟨0xB9, 0x79, 0x37, 0x9E⟩ ∧
  subkey .k128 (Vector.replicate 32 0) 2 = ⟨0x10, 0xF4, 0x6E, 0x3C⟩ ∧
  subkey .k128 (Vector.replicate 32 0) 3 = ⟨0x67, 0x6D, 0xA6, 0xDA⟩ ∧
  subkey .k128 (Vector.replicate 32 0) 64 = ⟨0xAB, 0x6E, 0xA6, 0x8B⟩

/-- 43_feistel_engine.md R133 (with R131, R132): an ENCRYPT issued while idle with the right lengths leaves in `DOUT` the
ciphertext of `DIN` under `KEY`, after `2*rounds + 1` engine steps, and every other host-visible register and every byte of
`EKS` as it was; the rule's two examples. -/
def Obligations.EncryptComputesCiphertext : Prop :=
  (∀ (i : Instr) (s : State), i.opCode = .encrypt → Idle s → s.schedule = [] → s.keylen.toNat = klen i.variant →
    s.blklen = 8 →
    ∃ t u : State, exec i s = .next t ∧ runSteps (2 * rounds i.variant + 1) t = .next u ∧
      (∀ k : Nat, k ≤ 2 * rounds i.variant → ∃ w : State, runSteps k t = .next w ∧ w.status.busy = true) ∧
      u.dout = encryptBlock i.variant s.key s.din ∧ u.eks = s.eks ∧ u.eksDraw = s.eksDraw ∧ u.schlen = s.schlen ∧
      u.key = s.key ∧ u.din = s.din ∧ u.keylen = s.keylen ∧ u.blklen = s.blklen ∧
      u.status = { busy := false, done := true, err := false, errcode := 0, ovr := s.status.ovr }) ∧
  encryptBlock .k128 (Vector.replicate 32 0) (Vector.replicate 8 0) = #v[0x0B, 0x19, 0xA6, 0xDE, 0x7D, 0x4C, 0x69, 0x06] ∧
  encryptBlock .k256 (Vector.replicate 32 0) (Vector.replicate 8 0) = #v[0x02, 0xCD, 0x13, 0xD9, 0x93, 0xA1, 0x12, 0xFD]

/-- 43_feistel_engine.md R136, R139 (with R134, R135): a DECRYPT issued while idle with the right lengths runs to completion
whatever the table holds, and leaves in `DOUT` the function of `DIN` and of the table that the rules give; the rule's
example. -/
def Obligations.DecryptComputesFromTable : Prop :=
  (∀ (i : Instr) (s : State), i.opCode = .decrypt → Idle s → s.schedule = [] → s.blklen = 8 →
    s.schlen.toNat = slen i.variant →
    ∃ t u : State, exec i s = .next t ∧ runSteps (2 * rounds i.variant + 1) t = .next u ∧
      (∀ k : Nat, k ≤ 2 * rounds i.variant → ∃ w : State, runSteps k t = .next w ∧ w.status.busy = true) ∧
      u.dout = decryptBlock i.variant s.entry s.din ∧ u.eks = s.eks ∧ u.eksDraw = s.eksDraw ∧ u.schlen = s.schlen ∧
      u.key = s.key ∧ u.din = s.din ∧ u.keylen = s.keylen ∧ u.blklen = s.blklen ∧ u.ks = s.ks ∧ u.rc = s.rc ∧
      u.status = { busy := false, done := true, err := false, errcode := 0, ovr := s.status.ovr }) ∧
  decryptBlock .k128 (subkey .k128 (Vector.replicate 32 0)) #v[0x0B, 0x19, 0xA6, 0xDE, 0x7D, 0x4C, 0x69, 0x06] =
    Vector.replicate 8 0

/-- 43_feistel_engine.md R138 (T1): decryption with the table of a key undoes encryption under it, for every block, key and
variant, and for any table that agrees with the key's subkeys at the entries read. -/
def Obligations.DecryptUndoesEncrypt : Prop :=
  ∀ (v : Variant) (k : Vector Byte 32) (b : Vector Byte 8) (table : Nat → Lanes),
    (∀ n : Nat, 1 ≤ n → n ≤ 2 * rounds v → table n = subkey v k n) →
    decryptBlock v table (encryptBlock v k b) = b

/-- 43_feistel_engine.md R138 on the machine: the host issues EXPAND and ENCRYPT of one variant, each run until idle; with `DIN`
then set to what `DOUT` holds (directly, by no write event), it issues DECRYPT, run until idle: `DOUT` is the plaintext. Each
command takes its write to `CMD`, the `2*rounds + 1` engine steps of 44_host_commands.md R155, and one step in which `RUN`
leaves the schedule: that step is the model's reading (DEDUCED, log 11), the schedule its choice (DESIGN CHOICE, log 1). -/
def Obligations.HardwareRoundTrip : Prop :=
  ∀ (v : Variant) (expand encrypt decrypt : Instr) (s : State),
    expand.opCode = .expand → encrypt.opCode = .encrypt → decrypt.opCode = .decrypt →
    expand.variant = v → encrypt.variant = v → decrypt.variant = v →
    Idle s → s.keylen.toNat = klen v → s.blklen = 8 →
    s.schedule = [.write 0x030 (Sys2Proof.encode expand), .run, .write 0x030 (Sys2Proof.encode encrypt), .run] →
    ∃ t u : State, runSteps (2 * (2 * rounds v + 3)) s = .next t ∧ t.schedule = [] ∧
      runSteps (2 * rounds v + 3)
        { t with din := t.dout, schedule := [.write 0x030 (Sys2Proof.encode decrypt), .run] } = .next u ∧
      u.schedule = [] ∧ u.status.busy = false ∧ u.status.done = true ∧ u.dout = s.din

/-! ### Invariants and whole-machine rules -/

/-- The invariant holds at reset and after a reset in any state (10_state.md R31; 70_reset_and_hazards.md R200). -/
def Obligations.ResetMeetsInvariant : Prop :=
  Sys2Proof.Invariant State.reset ∧ ∀ s : State, Sys2Proof.Invariant (resetCore s)

/-- Every step of the machine, of either agent, keeps the invariant: legal flags (10_state.md R21, U10), a legal sequencer
(R14, 44_host_commands.md R158), the table marked invalid during EXPAND (R25), `RC = HR * DELTA` (42_key_schedule.md R111),
the schedule memory canonical. -/
def Obligations.StepKeepsInvariant : Prop :=
  ∀ s t : State, Sys2Proof.Invariant s → step s = .next t → Sys2Proof.Invariant t

/-- 60_exceptions.md R177, 43_feistel_engine.md R140: from a state that meets the invariant no run, of any length and with
any events to come, ever stops. -/
def Obligations.RunNeverStops : Prop :=
  ∀ s : State, Sys2Proof.Invariant s → SafeFrom s

/-- 20_memory.md R50, R54; 70_reset_and_hazards.md R213: a running operation is not disturbed by the host. Take any sequence
of host reads, host writes and engine steps during which the operation does not finish, and one more engine step, perhaps
its finish: the core ends as if the engine alone had moved, except that `OVR` may be set. -/
def Obligations.HostCannotDisturbOperation : Prop :=
  ∀ (s : State) (es : List Event), Sys2Proof.Invariant s → s.status.busy = true → es.all Event.isAtomicAccess = true →
    s.hr.toNat + engineTurns es ≤ 2 * rounds s.var →
    ∃ t u : State, runSteps (es.length + 1) { s with schedule := es ++ [.engine] } = .next t ∧
      runSteps (engineTurns es + 1) { s with schedule := [] } = .next u ∧
      t = { u with status := { u.status with ovr := t.status.ovr }, results := t.results }

/-- 70_reset_and_hazards.md R219: which steps a run takes, and every flag and length it reports, depend on the flags, the
sequencer, the length registers and the host's events alone, never on key, block or table bytes. -/
def Obligations.DataNeverReachesControl : Prop :=
  ∀ (k : Nat) (s t s' : State), SameControl s t → runSteps k s = .next s' →
    ∃ t' : State, runSteps k t = .next t' ∧ SameControl s' t'

/-- 10_state.md R28: what earlier operations left in the private registers of an idle core is never seen by the host,
whatever it does next. -/
def Obligations.OldPrivateStateUnobservable : Prop :=
  ∀ (k : Nat) (s t s' : State), Idle s → SameButPrivate s t → runSteps k s = .next s' →
    ∃ t' : State, runSteps k t = .next t' ∧ HostSeesSame s' t'

/-- 10_state.md R20, R22: only reset clears `OVR`, and only a host write to a writable location while busy sets it. -/
def Obligations.OverrunIsSticky : Prop :=
  ∀ s t : State, step s = .next t → (∀ rest : List Event, s.schedule ≠ .reset :: rest) →
    (s.status.ovr = true → t.status.ovr = true) ∧
    (s.status.ovr = false → t.status.ovr = true →
      s.status.busy = true ∧ ∃ (a : Addr) (v : Byte) (rest : List Event), s.schedule = .write a v :: rest ∧
        (a.toNat ≤ 0x027 ∨ a = 0x030 ∨ (0x032 ≤ a.toNat ∧ a.toNat ≤ 0x034) ∨ (0x400 ≤ a.toNat ∧ a.toNat ≤ 0x603)))

/-- 10_state.md R18: `DOUT` changes only at a reset or at the finish of ENCRYPT or DECRYPT, and then takes the branches. -/
def Obligations.OutputOnlyAtFinish : Prop :=
  ∀ s t : State, step s = .next t → t.dout ≠ s.dout →
    (∃ rest : List Event, s.schedule = .reset :: rest) ∨
    (s.status.busy = true ∧ s.hr.toNat = 2 * rounds s.var ∧ (s.op = .encrypt ∨ s.op = .decrypt) ∧
      t.dout = blockOf s.l s.r ∧ t.status.busy = false ∧ t.status.done = true)

/-- 10_state.md R16, R17, R23, R24: only an idle host write or a reset changes `KEY`, `DIN`, `KEYLEN` or `BLKLEN`. -/
def Obligations.HostOwnsOperands : Prop :=
  ∀ s t : State, step s = .next t →
    (t.key ≠ s.key ∨ t.din ≠ s.din ∨ t.keylen ≠ s.keylen ∨ t.blklen ≠ s.blklen) →
    (∃ rest : List Event, s.schedule = .reset :: rest) ∨
    (s.status.busy = false ∧ ∃ (a : Addr) (v : Byte) (rest : List Event), s.schedule = .write a v :: rest ∧
      (a.toNat ≤ 0x027 ∨ a = 0x032 ∨ a = 0x033))

/-- 30_encoding.md R75, R76: what the script's pseudo-statements expand to (`WAIT` in the reading for a model without time,
log 11). -/
def Obligations.ScriptLinesExpand : Prop :=
  (∀ i : Instr, scriptEvents (.command i) = [.write 0x030 (Sys2Proof.encode i)]) ∧
  (∀ bytes : List Byte, (ScriptLine.loadKey bytes).wellFormed = true →
    (scriptEvents (.loadKey bytes)).length = bytes.length + 1 ∧
    (∀ (j : Nat) (h : j < bytes.length), (scriptEvents (.loadKey bytes))[j]? = some (.write (BitVec.ofNat 11 j) bytes[j])) ∧
    (scriptEvents (.loadKey bytes))[bytes.length]? = some (.write 0x032 (BitVec.ofNat 8 bytes.length))) ∧
  (∀ bytes : List Byte, (ScriptLine.loadBlk bytes).wellFormed = true →
    (scriptEvents (.loadBlk bytes)).length = 9 ∧
    (∀ (j : Nat) (h : j < bytes.length),
      (scriptEvents (.loadBlk bytes))[j]? = some (.write (BitVec.ofNat 11 (0x020 + j)) bytes[j])) ∧
    (scriptEvents (.loadBlk bytes))[8]? = some (.write 0x033 0x08)) ∧
  (scriptEvents .wait = [.run, .read 0x031]) ∧
  (scriptEvents .readBlk =
    [.read 0x028, .read 0x029, .read 0x02A, .read 0x02B, .read 0x02C, .read 0x02D, .read 0x02E, .read 0x02F]) ∧
  (∀ (n : Nat) (b0 b1 b2 b3 : Byte), n ≤ 128 →
    scriptEvents (.readEks n) = [.read (BitVec.ofNat 11 (0x400 + 4 * n)), .read (BitVec.ofNat 11 (0x400 + 4 * n + 1)),
      .read (BitVec.ofNat 11 (0x400 + 4 * n + 2)), .read (BitVec.ofNat 11 (0x400 + 4 * n + 3))] ∧
    scriptEvents (.loadEks n b0 b1 b2 b3) =
      [.write (BitVec.ofNat 11 (0x400 + 4 * n)) b0, .write (BitVec.ofNat 11 (0x400 + 4 * n + 1)) b1,
        .write (BitVec.ofNat 11 (0x400 + 4 * n + 2)) b2, .write (BitVec.ofNat 11 (0x400 + 4 * n + 3)) b3])
end

