-- ==== Sys2Proof/Laws/Memory.lean ====
section
/-! SUPPORT. The schedule memory: read after write, and that every operation keeps the canonical form. -/

namespace Sys2Proof.Machine

@[simp] theorem Memory.lookup_write_same (m : Memory) (a : Nat) (v : Byte) : (m.write a v).lookup a = some v := by
  induction m with
  | nil => simp [Memory.write, Memory.lookup]
  | cons c m ih =>
    obtain ⟨b, w⟩ := c
    by_cases h1 : a < b
    · simp [Memory.write, Memory.lookup, h1]
    · by_cases h2 : a = b
      · simp [Memory.write, Memory.lookup, h2]
      · simp [Memory.write, Memory.lookup, h1, h2, Ne.symm h2, ih]

theorem Memory.lookup_write_other (m : Memory) {a b : Nat} (v : Byte) (h : b ≠ a) :
    (m.write a v).lookup b = m.lookup b := by
  induction m with
  | nil => simp [Memory.write, Memory.lookup, Ne.symm h]
  | cons c m ih =>
    obtain ⟨d, w⟩ := c
    by_cases h1 : a < d
    · simp [Memory.write, Memory.lookup, h1, Ne.symm h]
    · by_cases h2 : a = d
      · subst h2
        simp [Memory.write, Memory.lookup, Ne.symm h]
      · simp [Memory.write, Memory.lookup, h1, h2, ih]

@[simp] theorem Memory.byte_write_same (m : Memory) (draw a : Nat) (v : Byte) : (m.write a v).byte draw a = v := by
  simp [Memory.byte]

theorem Memory.byte_write_other (m : Memory) (draw : Nat) {a b : Nat} (v : Byte) (h : b ≠ a) :
    (m.write a v).byte draw b = m.byte draw b := by
  simp [Memory.byte, Memory.lookup_write_other m v h]

/-- A write lists the written address and what was listed before. -/
theorem Memory.mem_write {m : Memory} {a : Nat} {v : Byte} {c : Host.Cell} (h : c ∈ m.write a v) : c = (a, v) ∨ c ∈ m := by
  induction m with
  | nil => simpa [Memory.write] using h
  | cons d m ih =>
    obtain ⟨b, w⟩ := d
    by_cases h1 : a < b
    · simpa [Memory.write, h1] using h
    · by_cases h2 : a = b
      · subst h2
        simp only [Memory.write, Nat.lt_irrefl, if_false, if_true, List.mem_cons] at h
        exact h.imp id (List.mem_cons_of_mem _)
      · simp only [Memory.write, h1, h2, if_false, List.mem_cons] at h
        rcases h with h | h
        · exact .inr (h ▸ List.mem_cons_self)
        · exact (ih h).imp id (List.mem_cons_of_mem _)

/-- A write keeps the canonical form, when it is to an address of `EKS`. -/
theorem Memory.wf_write {m : Memory} (hm : m.wf) {a : Nat} (v : Byte) (ha : eksBase ≤ a ∧ a < eksEnd) :
    (m.write a v).wf := by
  refine ⟨?_, fun c hc => ?_⟩
  · have hp := hm.1
    clear hm
    induction m with
    | nil => simp [Memory.write]
    | cons d m ih =>
      obtain ⟨b, w⟩ := d
      obtain ⟨hb, hp'⟩ := List.pairwise_cons.1 hp
      by_cases h1 : a < b
      · simp only [Memory.write, h1, if_true]
        refine List.pairwise_cons.2 ⟨fun c hc => ?_, hp⟩
        rcases List.mem_cons.1 hc with rfl | hc
        · exact h1
        · exact Nat.lt_trans h1 (hb c hc)
      · by_cases h2 : a = b
        · subst h2
          simpa [Memory.write] using List.pairwise_cons.2 ⟨hb, hp'⟩
        · simp only [Memory.write, h1, h2, if_false]
          refine List.pairwise_cons.2 ⟨fun c hc => ?_, ih hp'⟩
          rcases Memory.mem_write hc with rfl | hc
          · show b < a
            omega
          · exact hb c hc
  · rcases Memory.mem_write hc with rfl | hc
    · exact ha
    · exact hm.2 c hc

/-- Entry `n ≤ 128` lies in the schedule memory (20_memory.md R42). -/
theorem eksAddress_bounds {n j : Nat} (hn : n ≤ 128) (hj : j ≤ 3) :
    eksBase ≤ eksAddress n j ∧ eksAddress n j < eksEnd := by
  unfold eksAddress eksBase eksEnd
  omega

theorem Memory.wf_writeEntry {m : Memory} (hm : m.wf) {n : Nat} (hn : n ≤ 128) (x : Lanes) : (m.writeEntry n x).wf :=
  Memory.wf_write (Memory.wf_write (Memory.wf_write (Memory.wf_write hm _ (eksAddress_bounds hn (by omega))) _
    (eksAddress_bounds hn (by omega))) _ (eksAddress_bounds hn (by omega))) _ (eksAddress_bounds hn (by omega))

/-- Writing an entry leaves every byte outside it alone. -/
theorem Memory.byte_writeEntry_other (m : Memory) (draw n : Nat) (x : Lanes) {a : Nat}
    (h : a < eksAddress n 0 ∨ eksAddress n 3 < a) : (m.writeEntry n x).byte draw a = m.byte draw a := by
  have h0 : a ≠ eksAddress n 0 := by unfold eksAddress at *; omega
  have h1 : a ≠ eksAddress n 1 := by unfold eksAddress at *; omega
  have h2 : a ≠ eksAddress n 2 := by unfold eksAddress at *; omega
  have h3 : a ≠ eksAddress n 3 := by unfold eksAddress at *; omega
  simp only [Memory.writeEntry, Memory.byte_write_other, ne_eq, h0, h1, h2, h3, not_false_eq_true]

/-- An entry reads as written. -/
@[simp] theorem Memory.entry_writeEntry_same (m : Memory) (draw n : Nat) (x : Lanes) :
    (m.writeEntry n x).entry draw n = x := by
  have e01 : eksAddress n 0 ≠ eksAddress n 1 := by unfold eksAddress; omega
  have e02 : eksAddress n 0 ≠ eksAddress n 2 := by unfold eksAddress; omega
  have e03 : eksAddress n 0 ≠ eksAddress n 3 := by unfold eksAddress; omega
  have e12 : eksAddress n 1 ≠ eksAddress n 2 := by unfold eksAddress; omega
  have e13 : eksAddress n 1 ≠ eksAddress n 3 := by unfold eksAddress; omega
  have e23 : eksAddress n 2 ≠ eksAddress n 3 := by unfold eksAddress; omega
  simp [Memory.writeEntry, Memory.entry, Memory.byte_write_other, e01, e02, e03, e12, e13, e23]

/-- Another entry reads as before. -/
theorem Memory.entry_writeEntry_other (m : Memory) (draw : Nat) {n k : Nat} (x : Lanes) (h : k ≠ n) :
    (m.writeEntry n x).entry draw k = m.entry draw k := by
  have hb : ∀ j : Nat, j ≤ 3 → (m.writeEntry n x).byte draw (eksAddress k j) = m.byte draw (eksAddress k j) := fun j hj =>
    Memory.byte_writeEntry_other m draw n x (by unfold eksAddress; omega)
  simp [Memory.entry, hb]

theorem Memory.wf_nil : Memory.wf [] := ⟨List.Pairwise.nil, by simp⟩

end Sys2Proof.Machine
end

