-- ==== Sys2Proof/Laws/Address.lean ====
section
/-! SUPPORT. The address map (20_memory.md R41, R42), range by range, and which targets a host write reaches. -/

namespace Sys2Proof.Machine

theorem addressMap_key (i : Fin 32) : addressMap (BitVec.ofNat 11 i.val) = .key i := by decide +revert

theorem addressMap_din (i : Fin 8) : addressMap (BitVec.ofNat 11 (0x020 + i.val)) = .din i := by decide +revert

theorem addressMap_dout (i : Fin 8) : addressMap (BitVec.ofNat 11 (0x028 + i.val)) = .dout i := by decide +revert

theorem addressMap_eks (n : Fin 129) (j : Fin 4) :
    addressMap (BitVec.ofNat 11 (0x400 + 4 * n.val + j.val)) = .eks n j := by
  have hn := n.isLt
  have hj := j.isLt
  have e : (BitVec.ofNat 11 (0x400 + 4 * n.val + j.val)).toNat = 0x400 + 4 * n.val + j.val := by
    rw [BitVec.toNat_ofNat]; omega
  unfold addressMap
  simp only [e]
  rw [dif_neg (by omega), dif_neg (by omega), dif_neg (by omega), if_neg (by omega), if_neg (by omega), if_neg (by omega),
    if_neg (by omega), if_neg (by omega), dif_pos (by omega)]
  refine congrArg₂ Target.eks (Fin.ext ?_) (Fin.ext ?_) <;> simp only <;> omega

/-- The registers a host write stores into, by address range. -/
theorem writable_iff (a : Addr) : (addressMap a).writable = true ↔
    (a.toNat ≤ 0x027 ∨ a = 0x030 ∨ (0x032 ≤ a.toNat ∧ a.toNat ≤ 0x034) ∨ (0x400 ≤ a.toNat ∧ a.toNat ≤ 0x603)) := by
  have ha : a = 0x030 ↔ a.toNat = 0x030 := by rw [← BitVec.toNat_inj]; rfl
  rw [ha]
  unfold addressMap
  split_ifs <;> simp [Target.writable] <;> omega

theorem addressMap_eq_cmd (a : Addr) : addressMap a = .cmd ↔ a = 0x030 := by
  have ha : a = 0x030 ↔ a.toNat = 0x030 := by rw [← BitVec.toNat_inj]; rfl
  rw [ha]
  unfold addressMap
  split_ifs <;> simp <;> omega

theorem addressMap_cmd : addressMap cmdAddress = .cmd := by decide

end Sys2Proof.Machine
end

