-- ==== Sys2Proof/Laws/State.lean ====
section
/-! SUPPORT. One lemma per field per update of the state, true by unfolding it once; and one per flag per update of STATUS. -/

namespace Sys2Proof.Machine

section
variable (s : State)

@[simp] theorem State.withStatus_l (t : Status) : (s.withStatus t).l = s.l := rfl
@[simp] theorem State.withStatus_r (t : Status) : (s.withStatus t).r = s.r := rfl
@[simp] theorem State.withStatus_ks (t : Status) : (s.withStatus t).ks = s.ks := rfl
@[simp] theorem State.withStatus_rc (t : Status) : (s.withStatus t).rc = s.rc := rfl
@[simp] theorem State.withStatus_hr (t : Status) : (s.withStatus t).hr = s.hr := rfl
@[simp] theorem State.withStatus_op (t : Status) : (s.withStatus t).op = s.op := rfl
@[simp] theorem State.withStatus_var (t : Status) : (s.withStatus t).var = s.var := rfl
@[simp] theorem State.withStatus_key (t : Status) : (s.withStatus t).key = s.key := rfl
@[simp] theorem State.withStatus_din (t : Status) : (s.withStatus t).din = s.din := rfl
@[simp] theorem State.withStatus_dout (t : Status) : (s.withStatus t).dout = s.dout := rfl
@[simp] theorem State.withStatus_status (t : Status) : (s.withStatus t).status = t := rfl
@[simp] theorem State.withStatus_keylen (t : Status) : (s.withStatus t).keylen = s.keylen := rfl
@[simp] theorem State.withStatus_blklen (t : Status) : (s.withStatus t).blklen = s.blklen := rfl
@[simp] theorem State.withStatus_schlen (t : Status) : (s.withStatus t).schlen = s.schlen := rfl
@[simp] theorem State.withStatus_eks (t : Status) : (s.withStatus t).eks = s.eks := rfl
@[simp] theorem State.withStatus_eksDraw (t : Status) : (s.withStatus t).eksDraw = s.eksDraw := rfl
@[simp] theorem State.withStatus_schedule (t : Status) : (s.withStatus t).schedule = s.schedule := rfl
@[simp] theorem State.withStatus_results (t : Status) : (s.withStatus t).results = s.results := rfl

@[simp] theorem State.withSequencer_l (o : OpCode) (v : Variant) (h : BitVec 8) : (s.withSequencer o v h).l = s.l := rfl
@[simp] theorem State.withSequencer_r (o : OpCode) (v : Variant) (h : BitVec 8) : (s.withSequencer o v h).r = s.r := rfl
@[simp] theorem State.withSequencer_ks (o : OpCode) (v : Variant) (h : BitVec 8) : (s.withSequencer o v h).ks = s.ks := rfl
@[simp] theorem State.withSequencer_rc (o : OpCode) (v : Variant) (h : BitVec 8) : (s.withSequencer o v h).rc = s.rc := rfl
@[simp] theorem State.withSequencer_hr (o : OpCode) (v : Variant) (h : BitVec 8) : (s.withSequencer o v h).hr = h := rfl
@[simp] theorem State.withSequencer_op (o : OpCode) (v : Variant) (h : BitVec 8) : (s.withSequencer o v h).op = o := rfl
@[simp] theorem State.withSequencer_var (o : OpCode) (v : Variant) (h : BitVec 8) : (s.withSequencer o v h).var = v := rfl
@[simp] theorem State.withSequencer_key (o : OpCode) (v : Variant) (h : BitVec 8) : (s.withSequencer o v h).key = s.key := rfl
@[simp] theorem State.withSequencer_din (o : OpCode) (v : Variant) (h : BitVec 8) : (s.withSequencer o v h).din = s.din := rfl
@[simp] theorem State.withSequencer_dout (o : OpCode) (v : Variant) (h : BitVec 8) : (s.withSequencer o v h).dout = s.dout := rfl
@[simp] theorem State.withSequencer_status (o : OpCode) (v : Variant) (h : BitVec 8) : (s.withSequencer o v h).status = s.status := rfl
@[simp] theorem State.withSequencer_keylen (o : OpCode) (v : Variant) (h : BitVec 8) : (s.withSequencer o v h).keylen = s.keylen := rfl
@[simp] theorem State.withSequencer_blklen (o : OpCode) (v : Variant) (h : BitVec 8) : (s.withSequencer o v h).blklen = s.blklen := rfl
@[simp] theorem State.withSequencer_schlen (o : OpCode) (v : Variant) (h : BitVec 8) : (s.withSequencer o v h).schlen = s.schlen := rfl
@[simp] theorem State.withSequencer_eks (o : OpCode) (v : Variant) (h : BitVec 8) : (s.withSequencer o v h).eks = s.eks := rfl
@[simp] theorem State.withSequencer_eksDraw (o : OpCode) (v : Variant) (h : BitVec 8) : (s.withSequencer o v h).eksDraw = s.eksDraw := rfl
@[simp] theorem State.withSequencer_schedule (o : OpCode) (v : Variant) (h : BitVec 8) : (s.withSequencer o v h).schedule = s.schedule := rfl
@[simp] theorem State.withSequencer_results (o : OpCode) (v : Variant) (h : BitVec 8) : (s.withSequencer o v h).results = s.results := rfl

@[simp] theorem State.withHr_l (h : BitVec 8) : (s.withHr h).l = s.l := rfl
@[simp] theorem State.withHr_r (h : BitVec 8) : (s.withHr h).r = s.r := rfl
@[simp] theorem State.withHr_ks (h : BitVec 8) : (s.withHr h).ks = s.ks := rfl
@[simp] theorem State.withHr_rc (h : BitVec 8) : (s.withHr h).rc = s.rc := rfl
@[simp] theorem State.withHr_hr (h : BitVec 8) : (s.withHr h).hr = h := rfl
@[simp] theorem State.withHr_op (h : BitVec 8) : (s.withHr h).op = s.op := rfl
@[simp] theorem State.withHr_var (h : BitVec 8) : (s.withHr h).var = s.var := rfl
@[simp] theorem State.withHr_key (h : BitVec 8) : (s.withHr h).key = s.key := rfl
@[simp] theorem State.withHr_din (h : BitVec 8) : (s.withHr h).din = s.din := rfl
@[simp] theorem State.withHr_dout (h : BitVec 8) : (s.withHr h).dout = s.dout := rfl
@[simp] theorem State.withHr_status (h : BitVec 8) : (s.withHr h).status = s.status := rfl
@[simp] theorem State.withHr_keylen (h : BitVec 8) : (s.withHr h).keylen = s.keylen := rfl
@[simp] theorem State.withHr_blklen (h : BitVec 8) : (s.withHr h).blklen = s.blklen := rfl
@[simp] theorem State.withHr_schlen (h : BitVec 8) : (s.withHr h).schlen = s.schlen := rfl
@[simp] theorem State.withHr_eks (h : BitVec 8) : (s.withHr h).eks = s.eks := rfl
@[simp] theorem State.withHr_eksDraw (h : BitVec 8) : (s.withHr h).eksDraw = s.eksDraw := rfl
@[simp] theorem State.withHr_schedule (h : BitVec 8) : (s.withHr h).schedule = s.schedule := rfl
@[simp] theorem State.withHr_results (h : BitVec 8) : (s.withHr h).results = s.results := rfl

@[simp] theorem State.withKeyState_l (k : Vector Byte 32) (c : Word) : (s.withKeyState k c).l = s.l := rfl
@[simp] theorem State.withKeyState_r (k : Vector Byte 32) (c : Word) : (s.withKeyState k c).r = s.r := rfl
@[simp] theorem State.withKeyState_ks (k : Vector Byte 32) (c : Word) : (s.withKeyState k c).ks = k := rfl
@[simp] theorem State.withKeyState_rc (k : Vector Byte 32) (c : Word) : (s.withKeyState k c).rc = c := rfl
@[simp] theorem State.withKeyState_hr (k : Vector Byte 32) (c : Word) : (s.withKeyState k c).hr = s.hr := rfl
@[simp] theorem State.withKeyState_op (k : Vector Byte 32) (c : Word) : (s.withKeyState k c).op = s.op := rfl
@[simp] theorem State.withKeyState_var (k : Vector Byte 32) (c : Word) : (s.withKeyState k c).var = s.var := rfl
@[simp] theorem State.withKeyState_key (k : Vector Byte 32) (c : Word) : (s.withKeyState k c).key = s.key := rfl
@[simp] theorem State.withKeyState_din (k : Vector Byte 32) (c : Word) : (s.withKeyState k c).din = s.din := rfl
@[simp] theorem State.withKeyState_dout (k : Vector Byte 32) (c : Word) : (s.withKeyState k c).dout = s.dout := rfl
@[simp] theorem State.withKeyState_status (k : Vector Byte 32) (c : Word) : (s.withKeyState k c).status = s.status := rfl
@[simp] theorem State.withKeyState_keylen (k : Vector Byte 32) (c : Word) : (s.withKeyState k c).keylen = s.keylen := rfl
@[simp] theorem State.withKeyState_blklen (k : Vector Byte 32) (c : Word) : (s.withKeyState k c).blklen = s.blklen := rfl
@[simp] theorem State.withKeyState_schlen (k : Vector Byte 32) (c : Word) : (s.withKeyState k c).schlen = s.schlen := rfl
@[simp] theorem State.withKeyState_eks (k : Vector Byte 32) (c : Word) : (s.withKeyState k c).eks = s.eks := rfl
@[simp] theorem State.withKeyState_eksDraw (k : Vector Byte 32) (c : Word) : (s.withKeyState k c).eksDraw = s.eksDraw := rfl
@[simp] theorem State.withKeyState_schedule (k : Vector Byte 32) (c : Word) : (s.withKeyState k c).schedule = s.schedule := rfl
@[simp] theorem State.withKeyState_results (k : Vector Byte 32) (c : Word) : (s.withKeyState k c).results = s.results := rfl

@[simp] theorem State.withBranches_l (x y : Lanes) : (s.withBranches x y).l = x := rfl
@[simp] theorem State.withBranches_r (x y : Lanes) : (s.withBranches x y).r = y := rfl
@[simp] theorem State.withBranches_ks (x y : Lanes) : (s.withBranches x y).ks = s.ks := rfl
@[simp] theorem State.withBranches_rc (x y : Lanes) : (s.withBranches x y).rc = s.rc := rfl
@[simp] theorem State.withBranches_hr (x y : Lanes) : (s.withBranches x y).hr = s.hr := rfl
@[simp] theorem State.withBranches_op (x y : Lanes) : (s.withBranches x y).op = s.op := rfl
@[simp] theorem State.withBranches_var (x y : Lanes) : (s.withBranches x y).var = s.var := rfl
@[simp] theorem State.withBranches_key (x y : Lanes) : (s.withBranches x y).key = s.key := rfl
@[simp] theorem State.withBranches_din (x y : Lanes) : (s.withBranches x y).din = s.din := rfl
@[simp] theorem State.withBranches_dout (x y : Lanes) : (s.withBranches x y).dout = s.dout := rfl
@[simp] theorem State.withBranches_status (x y : Lanes) : (s.withBranches x y).status = s.status := rfl
@[simp] theorem State.withBranches_keylen (x y : Lanes) : (s.withBranches x y).keylen = s.keylen := rfl
@[simp] theorem State.withBranches_blklen (x y : Lanes) : (s.withBranches x y).blklen = s.blklen := rfl
@[simp] theorem State.withBranches_schlen (x y : Lanes) : (s.withBranches x y).schlen = s.schlen := rfl
@[simp] theorem State.withBranches_eks (x y : Lanes) : (s.withBranches x y).eks = s.eks := rfl
@[simp] theorem State.withBranches_eksDraw (x y : Lanes) : (s.withBranches x y).eksDraw = s.eksDraw := rfl
@[simp] theorem State.withBranches_schedule (x y : Lanes) : (s.withBranches x y).schedule = s.schedule := rfl
@[simp] theorem State.withBranches_results (x y : Lanes) : (s.withBranches x y).results = s.results := rfl

@[simp] theorem State.withDout_l (b : Vector Byte 8) : (s.withDout b).l = s.l := rfl
@[simp] theorem State.withDout_r (b : Vector Byte 8) : (s.withDout b).r = s.r := rfl
@[simp] theorem State.withDout_ks (b : Vector Byte 8) : (s.withDout b).ks = s.ks := rfl
@[simp] theorem State.withDout_rc (b : Vector Byte 8) : (s.withDout b).rc = s.rc := rfl
@[simp] theorem State.withDout_hr (b : Vector Byte 8) : (s.withDout b).hr = s.hr := rfl
@[simp] theorem State.withDout_op (b : Vector Byte 8) : (s.withDout b).op = s.op := rfl
@[simp] theorem State.withDout_var (b : Vector Byte 8) : (s.withDout b).var = s.var := rfl
@[simp] theorem State.withDout_key (b : Vector Byte 8) : (s.withDout b).key = s.key := rfl
@[simp] theorem State.withDout_din (b : Vector Byte 8) : (s.withDout b).din = s.din := rfl
@[simp] theorem State.withDout_dout (b : Vector Byte 8) : (s.withDout b).dout = b := rfl
@[simp] theorem State.withDout_status (b : Vector Byte 8) : (s.withDout b).status = s.status := rfl
@[simp] theorem State.withDout_keylen (b : Vector Byte 8) : (s.withDout b).keylen = s.keylen := rfl
@[simp] theorem State.withDout_blklen (b : Vector Byte 8) : (s.withDout b).blklen = s.blklen := rfl
@[simp] theorem State.withDout_schlen (b : Vector Byte 8) : (s.withDout b).schlen = s.schlen := rfl
@[simp] theorem State.withDout_eks (b : Vector Byte 8) : (s.withDout b).eks = s.eks := rfl
@[simp] theorem State.withDout_eksDraw (b : Vector Byte 8) : (s.withDout b).eksDraw = s.eksDraw := rfl
@[simp] theorem State.withDout_schedule (b : Vector Byte 8) : (s.withDout b).schedule = s.schedule := rfl
@[simp] theorem State.withDout_results (b : Vector Byte 8) : (s.withDout b).results = s.results := rfl

@[simp] theorem State.withSchlen_l (n : Byte) : (s.withSchlen n).l = s.l := rfl
@[simp] theorem State.withSchlen_r (n : Byte) : (s.withSchlen n).r = s.r := rfl
@[simp] theorem State.withSchlen_ks (n : Byte) : (s.withSchlen n).ks = s.ks := rfl
@[simp] theorem State.withSchlen_rc (n : Byte) : (s.withSchlen n).rc = s.rc := rfl
@[simp] theorem State.withSchlen_hr (n : Byte) : (s.withSchlen n).hr = s.hr := rfl
@[simp] theorem State.withSchlen_op (n : Byte) : (s.withSchlen n).op = s.op := rfl
@[simp] theorem State.withSchlen_var (n : Byte) : (s.withSchlen n).var = s.var := rfl
@[simp] theorem State.withSchlen_key (n : Byte) : (s.withSchlen n).key = s.key := rfl
@[simp] theorem State.withSchlen_din (n : Byte) : (s.withSchlen n).din = s.din := rfl
@[simp] theorem State.withSchlen_dout (n : Byte) : (s.withSchlen n).dout = s.dout := rfl
@[simp] theorem State.withSchlen_status (n : Byte) : (s.withSchlen n).status = s.status := rfl
@[simp] theorem State.withSchlen_keylen (n : Byte) : (s.withSchlen n).keylen = s.keylen := rfl
@[simp] theorem State.withSchlen_blklen (n : Byte) : (s.withSchlen n).blklen = s.blklen := rfl
@[simp] theorem State.withSchlen_schlen (n : Byte) : (s.withSchlen n).schlen = n := rfl
@[simp] theorem State.withSchlen_eks (n : Byte) : (s.withSchlen n).eks = s.eks := rfl
@[simp] theorem State.withSchlen_eksDraw (n : Byte) : (s.withSchlen n).eksDraw = s.eksDraw := rfl
@[simp] theorem State.withSchlen_schedule (n : Byte) : (s.withSchlen n).schedule = s.schedule := rfl
@[simp] theorem State.withSchlen_results (n : Byte) : (s.withSchlen n).results = s.results := rfl

@[simp] theorem State.withEks_l (m : Memory) : (s.withEks m).l = s.l := rfl
@[simp] theorem State.withEks_r (m : Memory) : (s.withEks m).r = s.r := rfl
@[simp] theorem State.withEks_ks (m : Memory) : (s.withEks m).ks = s.ks := rfl
@[simp] theorem State.withEks_rc (m : Memory) : (s.withEks m).rc = s.rc := rfl
@[simp] theorem State.withEks_hr (m : Memory) : (s.withEks m).hr = s.hr := rfl
@[simp] theorem State.withEks_op (m : Memory) : (s.withEks m).op = s.op := rfl
@[simp] theorem State.withEks_var (m : Memory) : (s.withEks m).var = s.var := rfl
@[simp] theorem State.withEks_key (m : Memory) : (s.withEks m).key = s.key := rfl
@[simp] theorem State.withEks_din (m : Memory) : (s.withEks m).din = s.din := rfl
@[simp] theorem State.withEks_dout (m : Memory) : (s.withEks m).dout = s.dout := rfl
@[simp] theorem State.withEks_status (m : Memory) : (s.withEks m).status = s.status := rfl
@[simp] theorem State.withEks_keylen (m : Memory) : (s.withEks m).keylen = s.keylen := rfl
@[simp] theorem State.withEks_blklen (m : Memory) : (s.withEks m).blklen = s.blklen := rfl
@[simp] theorem State.withEks_schlen (m : Memory) : (s.withEks m).schlen = s.schlen := rfl
@[simp] theorem State.withEks_eks (m : Memory) : (s.withEks m).eks = m := rfl
@[simp] theorem State.withEks_eksDraw (m : Memory) : (s.withEks m).eksDraw = s.eksDraw := rfl
@[simp] theorem State.withEks_schedule (m : Memory) : (s.withEks m).schedule = s.schedule := rfl
@[simp] theorem State.withEks_results (m : Memory) : (s.withEks m).results = s.results := rfl

@[simp] theorem State.pushResult_l (v : Byte) : (s.pushResult v).l = s.l := rfl
@[simp] theorem State.pushResult_r (v : Byte) : (s.pushResult v).r = s.r := rfl
@[simp] theorem State.pushResult_ks (v : Byte) : (s.pushResult v).ks = s.ks := rfl
@[simp] theorem State.pushResult_rc (v : Byte) : (s.pushResult v).rc = s.rc := rfl
@[simp] theorem State.pushResult_hr (v : Byte) : (s.pushResult v).hr = s.hr := rfl
@[simp] theorem State.pushResult_op (v : Byte) : (s.pushResult v).op = s.op := rfl
@[simp] theorem State.pushResult_var (v : Byte) : (s.pushResult v).var = s.var := rfl
@[simp] theorem State.pushResult_key (v : Byte) : (s.pushResult v).key = s.key := rfl
@[simp] theorem State.pushResult_din (v : Byte) : (s.pushResult v).din = s.din := rfl
@[simp] theorem State.pushResult_dout (v : Byte) : (s.pushResult v).dout = s.dout := rfl
@[simp] theorem State.pushResult_status (v : Byte) : (s.pushResult v).status = s.status := rfl
@[simp] theorem State.pushResult_keylen (v : Byte) : (s.pushResult v).keylen = s.keylen := rfl
@[simp] theorem State.pushResult_blklen (v : Byte) : (s.pushResult v).blklen = s.blklen := rfl
@[simp] theorem State.pushResult_schlen (v : Byte) : (s.pushResult v).schlen = s.schlen := rfl
@[simp] theorem State.pushResult_eks (v : Byte) : (s.pushResult v).eks = s.eks := rfl
@[simp] theorem State.pushResult_eksDraw (v : Byte) : (s.pushResult v).eksDraw = s.eksDraw := rfl
@[simp] theorem State.pushResult_schedule (v : Byte) : (s.pushResult v).schedule = s.schedule := rfl
@[simp] theorem State.pushResult_results (v : Byte) : (s.pushResult v).results = s.results ++ [v] := rfl

@[simp] theorem State.withSchedule_l (es : List Event) : (s.withSchedule es).l = s.l := rfl
@[simp] theorem State.withSchedule_r (es : List Event) : (s.withSchedule es).r = s.r := rfl
@[simp] theorem State.withSchedule_ks (es : List Event) : (s.withSchedule es).ks = s.ks := rfl
@[simp] theorem State.withSchedule_rc (es : List Event) : (s.withSchedule es).rc = s.rc := rfl
@[simp] theorem State.withSchedule_hr (es : List Event) : (s.withSchedule es).hr = s.hr := rfl
@[simp] theorem State.withSchedule_op (es : List Event) : (s.withSchedule es).op = s.op := rfl
@[simp] theorem State.withSchedule_var (es : List Event) : (s.withSchedule es).var = s.var := rfl
@[simp] theorem State.withSchedule_key (es : List Event) : (s.withSchedule es).key = s.key := rfl
@[simp] theorem State.withSchedule_din (es : List Event) : (s.withSchedule es).din = s.din := rfl
@[simp] theorem State.withSchedule_dout (es : List Event) : (s.withSchedule es).dout = s.dout := rfl
@[simp] theorem State.withSchedule_status (es : List Event) : (s.withSchedule es).status = s.status := rfl
@[simp] theorem State.withSchedule_keylen (es : List Event) : (s.withSchedule es).keylen = s.keylen := rfl
@[simp] theorem State.withSchedule_blklen (es : List Event) : (s.withSchedule es).blklen = s.blklen := rfl
@[simp] theorem State.withSchedule_schlen (es : List Event) : (s.withSchedule es).schlen = s.schlen := rfl
@[simp] theorem State.withSchedule_eks (es : List Event) : (s.withSchedule es).eks = s.eks := rfl
@[simp] theorem State.withSchedule_eksDraw (es : List Event) : (s.withSchedule es).eksDraw = s.eksDraw := rfl
@[simp] theorem State.withSchedule_schedule (es : List Event) : (s.withSchedule es).schedule = es := rfl
@[simp] theorem State.withSchedule_results (es : List Event) : (s.withSchedule es).results = s.results := rfl

@[simp] theorem refuse_l (e : CommandError) : (refuse e s).l = s.l := rfl
@[simp] theorem refuse_r (e : CommandError) : (refuse e s).r = s.r := rfl
@[simp] theorem refuse_ks (e : CommandError) : (refuse e s).ks = s.ks := rfl
@[simp] theorem refuse_rc (e : CommandError) : (refuse e s).rc = s.rc := rfl
@[simp] theorem refuse_hr (e : CommandError) : (refuse e s).hr = s.hr := rfl
@[simp] theorem refuse_op (e : CommandError) : (refuse e s).op = s.op := rfl
@[simp] theorem refuse_var (e : CommandError) : (refuse e s).var = s.var := rfl
@[simp] theorem refuse_key (e : CommandError) : (refuse e s).key = s.key := rfl
@[simp] theorem refuse_din (e : CommandError) : (refuse e s).din = s.din := rfl
@[simp] theorem refuse_dout (e : CommandError) : (refuse e s).dout = s.dout := rfl
@[simp] theorem refuse_status (e : CommandError) : (refuse e s).status = s.status.refused e := rfl
@[simp] theorem refuse_keylen (e : CommandError) : (refuse e s).keylen = s.keylen := rfl
@[simp] theorem refuse_blklen (e : CommandError) : (refuse e s).blklen = s.blklen := rfl
@[simp] theorem refuse_schlen (e : CommandError) : (refuse e s).schlen = s.schlen := rfl
@[simp] theorem refuse_eks (e : CommandError) : (refuse e s).eks = s.eks := rfl
@[simp] theorem refuse_eksDraw (e : CommandError) : (refuse e s).eksDraw = s.eksDraw := rfl
@[simp] theorem refuse_schedule (e : CommandError) : (refuse e s).schedule = s.schedule := rfl
@[simp] theorem refuse_results (e : CommandError) : (refuse e s).results = s.results := rfl

@[simp] theorem dropWrite_l : (dropWrite s).l = s.l := rfl
@[simp] theorem dropWrite_r : (dropWrite s).r = s.r := rfl
@[simp] theorem dropWrite_ks : (dropWrite s).ks = s.ks := rfl
@[simp] theorem dropWrite_rc : (dropWrite s).rc = s.rc := rfl
@[simp] theorem dropWrite_hr : (dropWrite s).hr = s.hr := rfl
@[simp] theorem dropWrite_op : (dropWrite s).op = s.op := rfl
@[simp] theorem dropWrite_var : (dropWrite s).var = s.var := rfl
@[simp] theorem dropWrite_key : (dropWrite s).key = s.key := rfl
@[simp] theorem dropWrite_din : (dropWrite s).din = s.din := rfl
@[simp] theorem dropWrite_dout : (dropWrite s).dout = s.dout := rfl
@[simp] theorem dropWrite_status : (dropWrite s).status = s.status.overrun := rfl
@[simp] theorem dropWrite_keylen : (dropWrite s).keylen = s.keylen := rfl
@[simp] theorem dropWrite_blklen : (dropWrite s).blklen = s.blklen := rfl
@[simp] theorem dropWrite_schlen : (dropWrite s).schlen = s.schlen := rfl
@[simp] theorem dropWrite_eks : (dropWrite s).eks = s.eks := rfl
@[simp] theorem dropWrite_eksDraw : (dropWrite s).eksDraw = s.eksDraw := rfl
@[simp] theorem dropWrite_schedule : (dropWrite s).schedule = s.schedule := rfl
@[simp] theorem dropWrite_results : (dropWrite s).results = s.results := rfl

@[simp] theorem acceptCommon_l (o : OpCode) (v : Variant) : (acceptCommon o v s).l = s.l := rfl
@[simp] theorem acceptCommon_r (o : OpCode) (v : Variant) : (acceptCommon o v s).r = s.r := rfl
@[simp] theorem acceptCommon_ks (o : OpCode) (v : Variant) : (acceptCommon o v s).ks = s.ks := rfl
@[simp] theorem acceptCommon_rc (o : OpCode) (v : Variant) : (acceptCommon o v s).rc = s.rc := rfl
@[simp] theorem acceptCommon_hr (o : OpCode) (v : Variant) : (acceptCommon o v s).hr = 0 := rfl
@[simp] theorem acceptCommon_op (o : OpCode) (v : Variant) : (acceptCommon o v s).op = o := rfl
@[simp] theorem acceptCommon_var (o : OpCode) (v : Variant) : (acceptCommon o v s).var = v := rfl
@[simp] theorem acceptCommon_key (o : OpCode) (v : Variant) : (acceptCommon o v s).key = s.key := rfl
@[simp] theorem acceptCommon_din (o : OpCode) (v : Variant) : (acceptCommon o v s).din = s.din := rfl
@[simp] theorem acceptCommon_dout (o : OpCode) (v : Variant) : (acceptCommon o v s).dout = s.dout := rfl
@[simp] theorem acceptCommon_status (o : OpCode) (v : Variant) : (acceptCommon o v s).status = s.status.accepted := rfl
@[simp] theorem acceptCommon_keylen (o : OpCode) (v : Variant) : (acceptCommon o v s).keylen = s.keylen := rfl
@[simp] theorem acceptCommon_blklen (o : OpCode) (v : Variant) : (acceptCommon o v s).blklen = s.blklen := rfl
@[simp] theorem acceptCommon_schlen (o : OpCode) (v : Variant) : (acceptCommon o v s).schlen = s.schlen := rfl
@[simp] theorem acceptCommon_eks (o : OpCode) (v : Variant) : (acceptCommon o v s).eks = s.eks := rfl
@[simp] theorem acceptCommon_eksDraw (o : OpCode) (v : Variant) : (acceptCommon o v s).eksDraw = s.eksDraw := rfl
@[simp] theorem acceptCommon_schedule (o : OpCode) (v : Variant) : (acceptCommon o v s).schedule = s.schedule := rfl
@[simp] theorem acceptCommon_results (o : OpCode) (v : Variant) : (acceptCommon o v s).results = s.results := rfl

@[simp] theorem finishCommon_l : (finishCommon s).l = s.l := rfl
@[simp] theorem finishCommon_r : (finishCommon s).r = s.r := rfl
@[simp] theorem finishCommon_ks : (finishCommon s).ks = s.ks := rfl
@[simp] theorem finishCommon_rc : (finishCommon s).rc = s.rc := rfl
@[simp] theorem finishCommon_hr : (finishCommon s).hr = s.hr := rfl
@[simp] theorem finishCommon_op : (finishCommon s).op = s.op := rfl
@[simp] theorem finishCommon_var : (finishCommon s).var = s.var := rfl
@[simp] theorem finishCommon_key : (finishCommon s).key = s.key := rfl
@[simp] theorem finishCommon_din : (finishCommon s).din = s.din := rfl
@[simp] theorem finishCommon_dout : (finishCommon s).dout = s.dout := rfl
@[simp] theorem finishCommon_status : (finishCommon s).status = s.status.finished := rfl
@[simp] theorem finishCommon_keylen : (finishCommon s).keylen = s.keylen := rfl
@[simp] theorem finishCommon_blklen : (finishCommon s).blklen = s.blklen := rfl
@[simp] theorem finishCommon_schlen : (finishCommon s).schlen = s.schlen := rfl
@[simp] theorem finishCommon_eks : (finishCommon s).eks = s.eks := rfl
@[simp] theorem finishCommon_eksDraw : (finishCommon s).eksDraw = s.eksDraw := rfl
@[simp] theorem finishCommon_schedule : (finishCommon s).schedule = s.schedule := rfl
@[simp] theorem finishCommon_results : (finishCommon s).results = s.results := rfl

@[simp] theorem loadKeyState_l (v : Variant) : (loadKeyState v s).l = s.l := by simp [loadKeyState]
@[simp] theorem loadKeyState_r (v : Variant) : (loadKeyState v s).r = s.r := by simp [loadKeyState]
@[simp] theorem loadKeyState_ks (v : Variant) : (loadKeyState v s).ks = loadedKey v s.key s.ks := by simp [loadKeyState]
@[simp] theorem loadKeyState_rc (v : Variant) : (loadKeyState v s).rc = 0 := by simp [loadKeyState]
@[simp] theorem loadKeyState_hr (v : Variant) : (loadKeyState v s).hr = s.hr := by simp [loadKeyState]
@[simp] theorem loadKeyState_op (v : Variant) : (loadKeyState v s).op = s.op := by simp [loadKeyState]
@[simp] theorem loadKeyState_var (v : Variant) : (loadKeyState v s).var = s.var := by simp [loadKeyState]
@[simp] theorem loadKeyState_key (v : Variant) : (loadKeyState v s).key = s.key := by simp [loadKeyState]
@[simp] theorem loadKeyState_din (v : Variant) : (loadKeyState v s).din = s.din := by simp [loadKeyState]
@[simp] theorem loadKeyState_dout (v : Variant) : (loadKeyState v s).dout = s.dout := by simp [loadKeyState]
@[simp] theorem loadKeyState_status (v : Variant) : (loadKeyState v s).status = s.status := by simp [loadKeyState]
@[simp] theorem loadKeyState_keylen (v : Variant) : (loadKeyState v s).keylen = s.keylen := by simp [loadKeyState]
@[simp] theorem loadKeyState_blklen (v : Variant) : (loadKeyState v s).blklen = s.blklen := by simp [loadKeyState]
@[simp] theorem loadKeyState_schlen (v : Variant) : (loadKeyState v s).schlen = s.schlen := by simp [loadKeyState]
@[simp] theorem loadKeyState_eks (v : Variant) : (loadKeyState v s).eks = s.eks := by simp [loadKeyState]
@[simp] theorem loadKeyState_eksDraw (v : Variant) : (loadKeyState v s).eksDraw = s.eksDraw := by simp [loadKeyState]
@[simp] theorem loadKeyState_schedule (v : Variant) : (loadKeyState v s).schedule = s.schedule := by simp [loadKeyState]
@[simp] theorem loadKeyState_results (v : Variant) : (loadKeyState v s).results = s.results := by simp [loadKeyState]

@[simp] theorem loadBlock_l : (loadBlock s).l = leftOfBlock s.din := rfl
@[simp] theorem loadBlock_r : (loadBlock s).r = rightOfBlock s.din := rfl
@[simp] theorem loadBlock_ks : (loadBlock s).ks = s.ks := rfl
@[simp] theorem loadBlock_rc : (loadBlock s).rc = s.rc := rfl
@[simp] theorem loadBlock_hr : (loadBlock s).hr = s.hr := rfl
@[simp] theorem loadBlock_op : (loadBlock s).op = s.op := rfl
@[simp] theorem loadBlock_var : (loadBlock s).var = s.var := rfl
@[simp] theorem loadBlock_key : (loadBlock s).key = s.key := rfl
@[simp] theorem loadBlock_din : (loadBlock s).din = s.din := rfl
@[simp] theorem loadBlock_dout : (loadBlock s).dout = s.dout := rfl
@[simp] theorem loadBlock_status : (loadBlock s).status = s.status := rfl
@[simp] theorem loadBlock_keylen : (loadBlock s).keylen = s.keylen := rfl
@[simp] theorem loadBlock_blklen : (loadBlock s).blklen = s.blklen := rfl
@[simp] theorem loadBlock_schlen : (loadBlock s).schlen = s.schlen := rfl
@[simp] theorem loadBlock_eks : (loadBlock s).eks = s.eks := rfl
@[simp] theorem loadBlock_eksDraw : (loadBlock s).eksDraw = s.eksDraw := rfl
@[simp] theorem loadBlock_schedule : (loadBlock s).schedule = s.schedule := rfl
@[simp] theorem loadBlock_results : (loadBlock s).results = s.results := rfl

@[simp] theorem storeBlock_l : (storeBlock s).l = s.l := rfl
@[simp] theorem storeBlock_r : (storeBlock s).r = s.r := rfl
@[simp] theorem storeBlock_ks : (storeBlock s).ks = s.ks := rfl
@[simp] theorem storeBlock_rc : (storeBlock s).rc = s.rc := rfl
@[simp] theorem storeBlock_hr : (storeBlock s).hr = s.hr := rfl
@[simp] theorem storeBlock_op : (storeBlock s).op = s.op := rfl
@[simp] theorem storeBlock_var : (storeBlock s).var = s.var := rfl
@[simp] theorem storeBlock_key : (storeBlock s).key = s.key := rfl
@[simp] theorem storeBlock_din : (storeBlock s).din = s.din := rfl
@[simp] theorem storeBlock_dout : (storeBlock s).dout = blockOf s.l s.r := rfl
@[simp] theorem storeBlock_status : (storeBlock s).status = s.status := rfl
@[simp] theorem storeBlock_keylen : (storeBlock s).keylen = s.keylen := rfl
@[simp] theorem storeBlock_blklen : (storeBlock s).blklen = s.blklen := rfl
@[simp] theorem storeBlock_schlen : (storeBlock s).schlen = s.schlen := rfl
@[simp] theorem storeBlock_eks : (storeBlock s).eks = s.eks := rfl
@[simp] theorem storeBlock_eksDraw : (storeBlock s).eksDraw = s.eksDraw := rfl
@[simp] theorem storeBlock_schedule : (storeBlock s).schedule = s.schedule := rfl
@[simp] theorem storeBlock_results : (storeBlock s).results = s.results := rfl

@[simp] theorem expandLoads_l (v : Variant) : (expandLoads v s).l = s.l := by simp [expandLoads]
@[simp] theorem expandLoads_r (v : Variant) : (expandLoads v s).r = s.r := by simp [expandLoads]
@[simp] theorem expandLoads_ks (v : Variant) : (expandLoads v s).ks = loadedKey v s.key s.ks := by simp [expandLoads]
@[simp] theorem expandLoads_rc (v : Variant) : (expandLoads v s).rc = 0 := by simp [expandLoads]
@[simp] theorem expandLoads_hr (v : Variant) : (expandLoads v s).hr = s.hr := by simp [expandLoads]
@[simp] theorem expandLoads_op (v : Variant) : (expandLoads v s).op = s.op := by simp [expandLoads]
@[simp] theorem expandLoads_var (v : Variant) : (expandLoads v s).var = s.var := by simp [expandLoads]
@[simp] theorem expandLoads_key (v : Variant) : (expandLoads v s).key = s.key := by simp [expandLoads]
@[simp] theorem expandLoads_din (v : Variant) : (expandLoads v s).din = s.din := by simp [expandLoads]
@[simp] theorem expandLoads_dout (v : Variant) : (expandLoads v s).dout = s.dout := by simp [expandLoads]
@[simp] theorem expandLoads_status (v : Variant) : (expandLoads v s).status = s.status := by simp [expandLoads]
@[simp] theorem expandLoads_keylen (v : Variant) : (expandLoads v s).keylen = s.keylen := by simp [expandLoads]
@[simp] theorem expandLoads_blklen (v : Variant) : (expandLoads v s).blklen = s.blklen := by simp [expandLoads]
@[simp] theorem expandLoads_schlen (v : Variant) : (expandLoads v s).schlen = 0 := by simp [expandLoads]
@[simp] theorem expandLoads_eks (v : Variant) : (expandLoads v s).eks = s.eks := by simp [expandLoads]
@[simp] theorem expandLoads_eksDraw (v : Variant) : (expandLoads v s).eksDraw = s.eksDraw := by simp [expandLoads]
@[simp] theorem expandLoads_schedule (v : Variant) : (expandLoads v s).schedule = s.schedule := by simp [expandLoads]
@[simp] theorem expandLoads_results (v : Variant) : (expandLoads v s).results = s.results := by simp [expandLoads]

@[simp] theorem encryptLoads_l (v : Variant) : (encryptLoads v s).l = leftOfBlock s.din := by simp [encryptLoads]
@[simp] theorem encryptLoads_r (v : Variant) : (encryptLoads v s).r = rightOfBlock s.din := by simp [encryptLoads]
@[simp] theorem encryptLoads_ks (v : Variant) : (encryptLoads v s).ks = loadedKey v s.key s.ks := by simp [encryptLoads]
@[simp] theorem encryptLoads_rc (v : Variant) : (encryptLoads v s).rc = 0 := by simp [encryptLoads]
@[simp] theorem encryptLoads_hr (v : Variant) : (encryptLoads v s).hr = s.hr := by simp [encryptLoads]
@[simp] theorem encryptLoads_op (v : Variant) : (encryptLoads v s).op = s.op := by simp [encryptLoads]
@[simp] theorem encryptLoads_var (v : Variant) : (encryptLoads v s).var = s.var := by simp [encryptLoads]
@[simp] theorem encryptLoads_key (v : Variant) : (encryptLoads v s).key = s.key := by simp [encryptLoads]
@[simp] theorem encryptLoads_din (v : Variant) : (encryptLoads v s).din = s.din := by simp [encryptLoads]
@[simp] theorem encryptLoads_dout (v : Variant) : (encryptLoads v s).dout = s.dout := by simp [encryptLoads]
@[simp] theorem encryptLoads_status (v : Variant) : (encryptLoads v s).status = s.status := by simp [encryptLoads]
@[simp] theorem encryptLoads_keylen (v : Variant) : (encryptLoads v s).keylen = s.keylen := by simp [encryptLoads]
@[simp] theorem encryptLoads_blklen (v : Variant) : (encryptLoads v s).blklen = s.blklen := by simp [encryptLoads]
@[simp] theorem encryptLoads_schlen (v : Variant) : (encryptLoads v s).schlen = s.schlen := by simp [encryptLoads]
@[simp] theorem encryptLoads_eks (v : Variant) : (encryptLoads v s).eks = s.eks := by simp [encryptLoads]
@[simp] theorem encryptLoads_eksDraw (v : Variant) : (encryptLoads v s).eksDraw = s.eksDraw := by simp [encryptLoads]
@[simp] theorem encryptLoads_schedule (v : Variant) : (encryptLoads v s).schedule = s.schedule := by simp [encryptLoads]
@[simp] theorem encryptLoads_results (v : Variant) : (encryptLoads v s).results = s.results := by simp [encryptLoads]

@[simp] theorem decryptLoads_l : (decryptLoads s).l = leftOfBlock s.din := rfl
@[simp] theorem decryptLoads_r : (decryptLoads s).r = rightOfBlock s.din := rfl
@[simp] theorem decryptLoads_ks : (decryptLoads s).ks = s.ks := rfl
@[simp] theorem decryptLoads_rc : (decryptLoads s).rc = s.rc := rfl
@[simp] theorem decryptLoads_hr : (decryptLoads s).hr = s.hr := rfl
@[simp] theorem decryptLoads_op : (decryptLoads s).op = s.op := rfl
@[simp] theorem decryptLoads_var : (decryptLoads s).var = s.var := rfl
@[simp] theorem decryptLoads_key : (decryptLoads s).key = s.key := rfl
@[simp] theorem decryptLoads_din : (decryptLoads s).din = s.din := rfl
@[simp] theorem decryptLoads_dout : (decryptLoads s).dout = s.dout := rfl
@[simp] theorem decryptLoads_status : (decryptLoads s).status = s.status := rfl
@[simp] theorem decryptLoads_keylen : (decryptLoads s).keylen = s.keylen := rfl
@[simp] theorem decryptLoads_blklen : (decryptLoads s).blklen = s.blklen := rfl
@[simp] theorem decryptLoads_schlen : (decryptLoads s).schlen = s.schlen := rfl
@[simp] theorem decryptLoads_eks : (decryptLoads s).eks = s.eks := rfl
@[simp] theorem decryptLoads_eksDraw : (decryptLoads s).eksDraw = s.eksDraw := rfl
@[simp] theorem decryptLoads_schedule : (decryptLoads s).schedule = s.schedule := rfl
@[simp] theorem decryptLoads_results : (decryptLoads s).results = s.results := rfl

@[simp] theorem resetCore_l : (resetCore s).l = State.reset.l := rfl
@[simp] theorem resetCore_r : (resetCore s).r = State.reset.r := rfl
@[simp] theorem resetCore_ks : (resetCore s).ks = State.reset.ks := rfl
@[simp] theorem resetCore_rc : (resetCore s).rc = State.reset.rc := rfl
@[simp] theorem resetCore_hr : (resetCore s).hr = State.reset.hr := rfl
@[simp] theorem resetCore_op : (resetCore s).op = State.reset.op := rfl
@[simp] theorem resetCore_var : (resetCore s).var = State.reset.var := rfl
@[simp] theorem resetCore_key : (resetCore s).key = State.reset.key := rfl
@[simp] theorem resetCore_din : (resetCore s).din = State.reset.din := rfl
@[simp] theorem resetCore_dout : (resetCore s).dout = State.reset.dout := rfl
@[simp] theorem resetCore_status : (resetCore s).status = State.reset.status := rfl
@[simp] theorem resetCore_keylen : (resetCore s).keylen = State.reset.keylen := rfl
@[simp] theorem resetCore_blklen : (resetCore s).blklen = State.reset.blklen := rfl
@[simp] theorem resetCore_schlen : (resetCore s).schlen = State.reset.schlen := rfl
@[simp] theorem resetCore_eks : (resetCore s).eks = State.reset.eks := rfl
@[simp] theorem resetCore_eksDraw : (resetCore s).eksDraw = s.eksDraw + 1 := rfl
@[simp] theorem resetCore_schedule : (resetCore s).schedule = s.schedule := rfl
@[simp] theorem resetCore_results : (resetCore s).results = s.results := rfl

end

section
variable (t : Status)

@[simp] theorem Status.accepted_busy : (t.accepted).busy = true := rfl
@[simp] theorem Status.accepted_done : (t.accepted).done = false := rfl
@[simp] theorem Status.accepted_err : (t.accepted).err = false := rfl
@[simp] theorem Status.accepted_errcode : (t.accepted).errcode = 0 := rfl
@[simp] theorem Status.accepted_ovr : (t.accepted).ovr = t.ovr := rfl

@[simp] theorem Status.finished_busy : (t.finished).busy = false := rfl
@[simp] theorem Status.finished_done : (t.finished).done = true := rfl
@[simp] theorem Status.finished_err : (t.finished).err = t.err := rfl
@[simp] theorem Status.finished_errcode : (t.finished).errcode = t.errcode := rfl
@[simp] theorem Status.finished_ovr : (t.finished).ovr = t.ovr := rfl

@[simp] theorem Status.refused_busy (e : CommandError) : (t.refused e).busy = t.busy := rfl
@[simp] theorem Status.refused_done (e : CommandError) : (t.refused e).done = false := rfl
@[simp] theorem Status.refused_err (e : CommandError) : (t.refused e).err = true := rfl
@[simp] theorem Status.refused_errcode (e : CommandError) : (t.refused e).errcode = e.code := rfl
@[simp] theorem Status.refused_ovr (e : CommandError) : (t.refused e).ovr = t.ovr := rfl

@[simp] theorem Status.overrun_busy : (t.overrun).busy = t.busy := rfl
@[simp] theorem Status.overrun_done : (t.overrun).done = t.done := rfl
@[simp] theorem Status.overrun_err : (t.overrun).err = t.err := rfl
@[simp] theorem Status.overrun_errcode : (t.overrun).errcode = t.errcode := rfl
@[simp] theorem Status.overrun_ovr : (t.overrun).ovr = true := rfl

end

section
variable (s : State) (t : Target) (v : Byte)

@[simp] theorem State.storeByte_l : (s.storeByte t v).l = s.l := by cases t <;> rfl
@[simp] theorem State.storeByte_r : (s.storeByte t v).r = s.r := by cases t <;> rfl
@[simp] theorem State.storeByte_ks : (s.storeByte t v).ks = s.ks := by cases t <;> rfl
@[simp] theorem State.storeByte_rc : (s.storeByte t v).rc = s.rc := by cases t <;> rfl
@[simp] theorem State.storeByte_hr : (s.storeByte t v).hr = s.hr := by cases t <;> rfl
@[simp] theorem State.storeByte_op : (s.storeByte t v).op = s.op := by cases t <;> rfl
@[simp] theorem State.storeByte_var : (s.storeByte t v).var = s.var := by cases t <;> rfl
@[simp] theorem State.storeByte_dout : (s.storeByte t v).dout = s.dout := by cases t <;> rfl
@[simp] theorem State.storeByte_status : (s.storeByte t v).status = s.status := by cases t <;> rfl
@[simp] theorem State.storeByte_eksDraw : (s.storeByte t v).eksDraw = s.eksDraw := by cases t <;> rfl
@[simp] theorem State.storeByte_schedule : (s.storeByte t v).schedule = s.schedule := by cases t <;> rfl
@[simp] theorem State.storeByte_results : (s.storeByte t v).results = s.results := by cases t <;> rfl

end

section
variable (s : State)

@[simp] theorem expandStep_l : (expandStep s).l = s.l := by simp [expandStep]
@[simp] theorem expandStep_r : (expandStep s).r = s.r := by simp [expandStep]
@[simp] theorem expandStep_ks : (expandStep s).ks = (kStep s.var s.ks s.rc).ks := by simp [expandStep]
@[simp] theorem expandStep_rc : (expandStep s).rc = (kStep s.var s.ks s.rc).rc := by simp [expandStep]
@[simp] theorem expandStep_hr : (expandStep s).hr = BitVec.ofNat 8 (s.hr.toNat + 1) := by simp [expandStep]
@[simp] theorem expandStep_op : (expandStep s).op = s.op := by simp [expandStep]
@[simp] theorem expandStep_var : (expandStep s).var = s.var := by simp [expandStep]
@[simp] theorem expandStep_key : (expandStep s).key = s.key := by simp [expandStep]
@[simp] theorem expandStep_din : (expandStep s).din = s.din := by simp [expandStep]
@[simp] theorem expandStep_dout : (expandStep s).dout = s.dout := by simp [expandStep]
@[simp] theorem expandStep_status : (expandStep s).status = s.status := by simp [expandStep]
@[simp] theorem expandStep_keylen : (expandStep s).keylen = s.keylen := by simp [expandStep]
@[simp] theorem expandStep_blklen : (expandStep s).blklen = s.blklen := by simp [expandStep]
@[simp] theorem expandStep_schlen : (expandStep s).schlen = s.schlen := by simp [expandStep]
@[simp] theorem expandStep_eks :
    (expandStep s).eks = s.eks.writeEntry (s.hr.toNat + 1) (kStep s.var s.ks s.rc).sk := by simp [expandStep]
@[simp] theorem expandStep_eksDraw : (expandStep s).eksDraw = s.eksDraw := by simp [expandStep]
@[simp] theorem expandStep_schedule : (expandStep s).schedule = s.schedule := by simp [expandStep]
@[simp] theorem expandStep_results : (expandStep s).results = s.results := by simp [expandStep]

@[simp] theorem encryptHalfRound_l :
    (encryptHalfRound s).l = (encryptBranches (s.hr.toNat + 1) (kStep s.var s.ks s.rc).sk s.l s.r).1 := by simp [encryptHalfRound]
@[simp] theorem encryptHalfRound_r :
    (encryptHalfRound s).r = (encryptBranches (s.hr.toNat + 1) (kStep s.var s.ks s.rc).sk s.l s.r).2 := by simp [encryptHalfRound]
@[simp] theorem encryptHalfRound_ks :
    (encryptHalfRound s).ks = (kStep s.var s.ks s.rc).ks := by simp [encryptHalfRound]
@[simp] theorem encryptHalfRound_rc :
    (encryptHalfRound s).rc = (kStep s.var s.ks s.rc).rc := by simp [encryptHalfRound]
@[simp] theorem encryptHalfRound_hr :
    (encryptHalfRound s).hr = BitVec.ofNat 8 (s.hr.toNat + 1) := by simp [encryptHalfRound]
@[simp] theorem encryptHalfRound_op : (encryptHalfRound s).op = s.op := by simp [encryptHalfRound]
@[simp] theorem encryptHalfRound_var : (encryptHalfRound s).var = s.var := by simp [encryptHalfRound]
@[simp] theorem encryptHalfRound_key : (encryptHalfRound s).key = s.key := by simp [encryptHalfRound]
@[simp] theorem encryptHalfRound_din : (encryptHalfRound s).din = s.din := by simp [encryptHalfRound]
@[simp] theorem encryptHalfRound_dout : (encryptHalfRound s).dout = s.dout := by simp [encryptHalfRound]
@[simp] theorem encryptHalfRound_status : (encryptHalfRound s).status = s.status := by simp [encryptHalfRound]
@[simp] theorem encryptHalfRound_keylen : (encryptHalfRound s).keylen = s.keylen := by simp [encryptHalfRound]
@[simp] theorem encryptHalfRound_blklen : (encryptHalfRound s).blklen = s.blklen := by simp [encryptHalfRound]
@[simp] theorem encryptHalfRound_schlen : (encryptHalfRound s).schlen = s.schlen := by simp [encryptHalfRound]
@[simp] theorem encryptHalfRound_eks : (encryptHalfRound s).eks = s.eks := by simp [encryptHalfRound]
@[simp] theorem encryptHalfRound_eksDraw : (encryptHalfRound s).eksDraw = s.eksDraw := by simp [encryptHalfRound]
@[simp] theorem encryptHalfRound_schedule : (encryptHalfRound s).schedule = s.schedule := by simp [encryptHalfRound]
@[simp] theorem encryptHalfRound_results : (encryptHalfRound s).results = s.results := by simp [encryptHalfRound]

@[simp] theorem decryptHalfRound_l :
    (decryptHalfRound s).l = (decryptBranches (s.hr.toNat + 1) (s.entry (halfRounds s.var + 1 - (s.hr.toNat + 1))) s.l s.r).1 := by simp [decryptHalfRound]
@[simp] theorem decryptHalfRound_r :
    (decryptHalfRound s).r = (decryptBranches (s.hr.toNat + 1) (s.entry (halfRounds s.var + 1 - (s.hr.toNat + 1))) s.l s.r).2 := by simp [decryptHalfRound]
@[simp] theorem decryptHalfRound_ks : (decryptHalfRound s).ks = s.ks := by simp [decryptHalfRound]
@[simp] theorem decryptHalfRound_rc : (decryptHalfRound s).rc = s.rc := by simp [decryptHalfRound]
@[simp] theorem decryptHalfRound_hr :
    (decryptHalfRound s).hr = BitVec.ofNat 8 (s.hr.toNat + 1) := by simp [decryptHalfRound]
@[simp] theorem decryptHalfRound_op : (decryptHalfRound s).op = s.op := by simp [decryptHalfRound]
@[simp] theorem decryptHalfRound_var : (decryptHalfRound s).var = s.var := by simp [decryptHalfRound]
@[simp] theorem decryptHalfRound_key : (decryptHalfRound s).key = s.key := by simp [decryptHalfRound]
@[simp] theorem decryptHalfRound_din : (decryptHalfRound s).din = s.din := by simp [decryptHalfRound]
@[simp] theorem decryptHalfRound_dout : (decryptHalfRound s).dout = s.dout := by simp [decryptHalfRound]
@[simp] theorem decryptHalfRound_status : (decryptHalfRound s).status = s.status := by simp [decryptHalfRound]
@[simp] theorem decryptHalfRound_keylen : (decryptHalfRound s).keylen = s.keylen := by simp [decryptHalfRound]
@[simp] theorem decryptHalfRound_blklen : (decryptHalfRound s).blklen = s.blklen := by simp [decryptHalfRound]
@[simp] theorem decryptHalfRound_schlen : (decryptHalfRound s).schlen = s.schlen := by simp [decryptHalfRound]
@[simp] theorem decryptHalfRound_eks : (decryptHalfRound s).eks = s.eks := by simp [decryptHalfRound]
@[simp] theorem decryptHalfRound_eksDraw : (decryptHalfRound s).eksDraw = s.eksDraw := by simp [decryptHalfRound]
@[simp] theorem decryptHalfRound_schedule : (decryptHalfRound s).schedule = s.schedule := by simp [decryptHalfRound]
@[simp] theorem decryptHalfRound_results : (decryptHalfRound s).results = s.results := by simp [decryptHalfRound]

@[simp] theorem expandFinish_l : (expandFinish s).l = s.l := by simp [expandFinish]
@[simp] theorem expandFinish_r : (expandFinish s).r = s.r := by simp [expandFinish]
@[simp] theorem expandFinish_ks : (expandFinish s).ks = s.ks := by simp [expandFinish]
@[simp] theorem expandFinish_rc : (expandFinish s).rc = s.rc := by simp [expandFinish]
@[simp] theorem expandFinish_hr : (expandFinish s).hr = s.hr := by simp [expandFinish]
@[simp] theorem expandFinish_op : (expandFinish s).op = s.op := by simp [expandFinish]
@[simp] theorem expandFinish_var : (expandFinish s).var = s.var := by simp [expandFinish]
@[simp] theorem expandFinish_key : (expandFinish s).key = s.key := by simp [expandFinish]
@[simp] theorem expandFinish_din : (expandFinish s).din = s.din := by simp [expandFinish]
@[simp] theorem expandFinish_dout : (expandFinish s).dout = s.dout := by simp [expandFinish]
@[simp] theorem expandFinish_status : (expandFinish s).status = s.status.finished := by simp [expandFinish]
@[simp] theorem expandFinish_keylen : (expandFinish s).keylen = s.keylen := by simp [expandFinish]
@[simp] theorem expandFinish_blklen : (expandFinish s).blklen = s.blklen := by simp [expandFinish]
@[simp] theorem expandFinish_schlen : (expandFinish s).schlen = BitVec.ofNat 8 (slen s.var) := by simp [expandFinish]
@[simp] theorem expandFinish_eks : (expandFinish s).eks = s.eks := by simp [expandFinish]
@[simp] theorem expandFinish_eksDraw : (expandFinish s).eksDraw = s.eksDraw := by simp [expandFinish]
@[simp] theorem expandFinish_schedule : (expandFinish s).schedule = s.schedule := by simp [expandFinish]
@[simp] theorem expandFinish_results : (expandFinish s).results = s.results := by simp [expandFinish]

@[simp] theorem encryptFinish_l : (encryptFinish s).l = s.l := by simp [encryptFinish]
@[simp] theorem encryptFinish_r : (encryptFinish s).r = s.r := by simp [encryptFinish]
@[simp] theorem encryptFinish_ks : (encryptFinish s).ks = s.ks := by simp [encryptFinish]
@[simp] theorem encryptFinish_rc : (encryptFinish s).rc = s.rc := by simp [encryptFinish]
@[simp] theorem encryptFinish_hr : (encryptFinish s).hr = s.hr := by simp [encryptFinish]
@[simp] theorem encryptFinish_op : (encryptFinish s).op = s.op := by simp [encryptFinish]
@[simp] theorem encryptFinish_var : (encryptFinish s).var = s.var := by simp [encryptFinish]
@[simp] theorem encryptFinish_key : (encryptFinish s).key = s.key := by simp [encryptFinish]
@[simp] theorem encryptFinish_din : (encryptFinish s).din = s.din := by simp [encryptFinish]
@[simp] theorem encryptFinish_dout : (encryptFinish s).dout = blockOf s.l s.r := by simp [encryptFinish]
@[simp] theorem encryptFinish_status : (encryptFinish s).status = s.status.finished := by simp [encryptFinish]
@[simp] theorem encryptFinish_keylen : (encryptFinish s).keylen = s.keylen := by simp [encryptFinish]
@[simp] theorem encryptFinish_blklen : (encryptFinish s).blklen = s.blklen := by simp [encryptFinish]
@[simp] theorem encryptFinish_schlen : (encryptFinish s).schlen = s.schlen := by simp [encryptFinish]
@[simp] theorem encryptFinish_eks : (encryptFinish s).eks = s.eks := by simp [encryptFinish]
@[simp] theorem encryptFinish_eksDraw : (encryptFinish s).eksDraw = s.eksDraw := by simp [encryptFinish]
@[simp] theorem encryptFinish_schedule : (encryptFinish s).schedule = s.schedule := by simp [encryptFinish]
@[simp] theorem encryptFinish_results : (encryptFinish s).results = s.results := by simp [encryptFinish]

@[simp] theorem decryptFinish_l : (decryptFinish s).l = s.l := by simp [decryptFinish]
@[simp] theorem decryptFinish_r : (decryptFinish s).r = s.r := by simp [decryptFinish]
@[simp] theorem decryptFinish_ks : (decryptFinish s).ks = s.ks := by simp [decryptFinish]
@[simp] theorem decryptFinish_rc : (decryptFinish s).rc = s.rc := by simp [decryptFinish]
@[simp] theorem decryptFinish_hr : (decryptFinish s).hr = s.hr := by simp [decryptFinish]
@[simp] theorem decryptFinish_op : (decryptFinish s).op = s.op := by simp [decryptFinish]
@[simp] theorem decryptFinish_var : (decryptFinish s).var = s.var := by simp [decryptFinish]
@[simp] theorem decryptFinish_key : (decryptFinish s).key = s.key := by simp [decryptFinish]
@[simp] theorem decryptFinish_din : (decryptFinish s).din = s.din := by simp [decryptFinish]
@[simp] theorem decryptFinish_dout : (decryptFinish s).dout = blockOf s.l s.r := by simp [decryptFinish]
@[simp] theorem decryptFinish_status : (decryptFinish s).status = s.status.finished := by simp [decryptFinish]
@[simp] theorem decryptFinish_keylen : (decryptFinish s).keylen = s.keylen := by simp [decryptFinish]
@[simp] theorem decryptFinish_blklen : (decryptFinish s).blklen = s.blklen := by simp [decryptFinish]
@[simp] theorem decryptFinish_schlen : (decryptFinish s).schlen = s.schlen := by simp [decryptFinish]
@[simp] theorem decryptFinish_eks : (decryptFinish s).eks = s.eks := by simp [decryptFinish]
@[simp] theorem decryptFinish_eksDraw : (decryptFinish s).eksDraw = s.eksDraw := by simp [decryptFinish]
@[simp] theorem decryptFinish_schedule : (decryptFinish s).schedule = s.schedule := by simp [decryptFinish]
@[simp] theorem decryptFinish_results : (decryptFinish s).results = s.results := by simp [decryptFinish]

end

end Sys2Proof.Machine
end

