-- ==== Sys2Proof/Laws/Command.lean ====
section
/-! SUPPORT. Issuing a command word: everything it can do, said once; and exec as one issue. -/

namespace Sys2Proof.Machine

/-- The loads of a command word's accept. -/
def loadsOf (i : Instr) : State → State :=
  match i.opCode with
  | .expand => expandLoads i.variant
  | .encrypt => encryptLoads i.variant
  | .decrypt => decryptLoads
  | .reserved => id

/-- Every command word is issued with its own operation, variant and loads. -/
theorem exec_eq (i : Instr) (s : State) : exec i s = .next (issue i.opCode i.variant (loadsOf i) s) := by
  cases i <;> rfl

theorem opCode_ne_reserved (i : Instr) : i.opCode ≠ .reserved := by cases i <;> decide

/-- A command word issued while busy is dropped (20_memory.md R50). -/
theorem issue_busy {op : OpCode} {v : Variant} {loads : State → State} {s : State} (h : s.status.busy = true) :
    issue op v loads s = dropWrite s := by simp [issue, h]

/-- Idle, with a failing check: refused (44_host_commands.md R150). -/
theorem issue_refused {op : OpCode} {v : Variant} {loads : State → State} {s : State} {e : CommandError}
    (h : s.status.busy = false) (hc : boundaryCheck op v s = some e) : issue op v loads s = refuse e s := by
  simp [issue, h, hc]

/-- Idle, with no failing check: accepted (44_host_commands.md R150). -/
theorem issue_accepted {op : OpCode} {v : Variant} {loads : State → State} {s : State}
    (h : s.status.busy = false) (hc : boundaryCheck op v s = none) : issue op v loads s = acceptCommon op v (loads s) := by
  simp [issue, h, hc]

/-- All that issuing a command word can do. -/
theorem issue_cases (op : OpCode) (v : Variant) (loads : State → State) (s : State) :
    (s.status.busy = true ∧ issue op v loads s = dropWrite s) ∨
    (s.status.busy = false ∧ ∃ e, boundaryCheck op v s = some e ∧ issue op v loads s = refuse e s) ∨
    (s.status.busy = false ∧ boundaryCheck op v s = none ∧ issue op v loads s = acceptCommon op v (loads s)) := by
  cases hb : s.status.busy
  · cases hc : boundaryCheck op v s with
    | none => exact .inr (.inr ⟨rfl, rfl, issue_accepted hb hc⟩)
    | some e => exact .inr (.inl ⟨rfl, e, rfl, issue_refused hb hc⟩)
  · exact .inl ⟨rfl, issue_busy hb⟩

/-- The checks all pass exactly when every length the operation looks at is right (44_host_commands.md R151). -/
theorem boundaryCheck_none_iff (op : OpCode) (v : Variant) (s : State) : boundaryCheck op v s = none ↔
    (usesKey op = true → s.keylen.toNat = klen v) ∧ (usesBlock op = true → s.blklen.toNat = blockBytes) ∧
      (usesTable op = true → s.schlen.toNat = slen v) := by
  unfold boundaryCheck
  split_ifs with h1 h2 h3 <;> simp <;> tauto

end Sys2Proof.Machine
end

