-- ==== Sys2Proof/Laws/Engine.lean ====
section
/-! SUPPORT. The engine: everything one of its steps can do, said once. -/

namespace Sys2Proof.Machine

/-- All that an engine step can answer with a next state (44_host_commands.md R153). -/
theorem engineStep_cases {s t : State} (h : engineStep s = .next t) :
    (s.status.busy = false ∧ t = s) ∨
    (s.status.busy = true ∧ s.hr.toNat < halfRounds s.var ∧
      ((s.op = .expand ∧ t = expandStep s) ∨ (s.op = .encrypt ∧ t = encryptHalfRound s) ∨
        (s.op = .decrypt ∧ t = decryptHalfRound s))) ∨
    (s.status.busy = true ∧ s.hr.toNat = halfRounds s.var ∧
      ((s.op = .expand ∧ t = expandFinish s) ∨ (s.op = .encrypt ∧ t = encryptFinish s) ∨
        (s.op = .decrypt ∧ t = decryptFinish s))) := by
  unfold engineStep at h
  split_ifs at h with hb h1 h2
  · unfold workStep at h
    split at h <;> simp_all
  · unfold finishStep at h
    split at h <;> simp_all
  · simp_all

/-- While idle the engine changes nothing. -/
theorem engineStep_idle {s : State} (h : s.status.busy = false) : engineStep s = .next s := by simp [engineStep, h]

/-- A running operation below its last half-round takes its step. -/
theorem engineStep_work {s : State} (hb : s.status.busy = true) (h : s.hr.toNat < halfRounds s.var) :
    engineStep s = workStep s := by simp [engineStep, hb, h]

/-- A running operation whose half-rounds are done finishes. -/
theorem engineStep_finish {s : State} (hb : s.status.busy = true) (h : s.hr.toNat = halfRounds s.var) :
    engineStep s = finishStep s := by simp [engineStep, hb, h]

/-- At most 128 half-rounds, so `HR` counts without wrapping (10_state.md R14). -/
theorem halfRounds_le (v : Variant) : halfRounds v ≤ 128 := by cases v <;> decide

/-- `HR` counts to the number of the half-round just done. -/
theorem toNat_nextHr {s : State} (h : s.hr.toNat < halfRounds s.var) :
    (BitVec.ofNat 8 (s.hr.toNat + 1)).toNat = s.hr.toNat + 1 := by
  have := halfRounds_le s.var
  rw [BitVec.toNat_ofNat]
  omega

end Sys2Proof.Machine
end

