-- ==== Sys2Proof/Laws/KeySchedule.lean ====
section
/-! SUPPORT. The key schedule byte by byte: one lemma for each unit, so that no proof unfolds a vector. -/

namespace Sys2Proof.Machine

theorem getElem_eq_get (k : Vector Byte 32) (i : Nat) (h : i < 32) : k[i] = k.get ⟨i, h⟩ := rfl

/-- A byte the rotation moves (42_key_schedule.md R110). -/
theorem rotateKeyByte_get (v : Variant) (k : Vector Byte 32) {i : Fin 32} (h : i.val < klen v) :
    (rotateKeyByte v k).get i = k.get ⟨(i.val + 3) % klen v, mod_klen_lt v _⟩ := by
  rw [← getElem_eq_get]
  unfold rotateKeyByte
  rw [Vector.getElem_ofFn]
  simp [h]

/-- A byte the rotation leaves alone (42_key_schedule.md R110). -/
theorem rotateKeyByte_get_above (v : Variant) (k : Vector Byte 32) {i : Fin 32} (h : klen v ≤ i.val) :
    (rotateKeyByte v k).get i = k.get i := by
  rw [← getElem_eq_get]
  unfold rotateKeyByte
  rw [Vector.getElem_ofFn, if_neg (by simpa using h)]

theorem setLeadingBytes_get (k : Vector Byte 32) (x : Lanes) (i : Fin 32) : (setLeadingBytes k x).get i =
    if i.val = 3 then x.l3 else if i.val = 2 then x.l2 else if i.val = 1 then x.l1 else if i.val = 0 then x.l0
    else k.get i := by
  rw [← getElem_eq_get, ← getElem_eq_get]
  unfold setLeadingBytes
  simp only [Vector.getElem_set]
  split_ifs <;> first | rfl | omega

theorem loadedKey_get (v : Variant) (k ks : Vector Byte 32) (i : Fin 32) :
    (loadedKey v k ks).get i = if i.val < klen v then k.get i else ks.get i := by
  rw [← getElem_eq_get]
  unfold loadedKey
  rw [Vector.getElem_ofFn]

theorem kStep_rc (v : Variant) (ks : Vector Byte 32) (rc : Word) : (kStep v ks rc).rc = rc + delta := rfl

theorem kStep_sk (v : Variant) (ks : Vector Byte 32) (rc : Word) :
    (kStep v ks rc).sk = bytesLe32 (le32 (leadingBytes (rotateKeyByte v ks)) + (rc + delta)) := rfl

theorem kStep_ks (v : Variant) (ks : Vector Byte 32) (rc : Word) :
    (kStep v ks rc).ks = setLeadingBytes (rotateKeyByte v ks) (kStep v ks rc).sk := rfl

theorem four_le_klen (v : Variant) : 4 ≤ klen v := by cases v <;> decide

theorem klen_le (v : Variant) : klen v ≤ 32 := by cases v <;> decide

/-- Two key registers are extensionally equal. -/
theorem key_ext {k k' : Vector Byte 32} (h : ∀ i : Fin 32, k.get i = k'.get i) : k = k' :=
  Vector.ext fun i hi => h ⟨i, hi⟩

/-- XOR with the same lanes twice is the identity (43_feistel_engine.md R138). -/
@[simp] theorem Lanes.xor_xor_self (x y : Lanes) : (x.xor y).xor y = x := by
  simp [Lanes.xor]

@[simp] theorem keyStateAfter_zero (v : Variant) (k : Vector Byte 32) :
    keyStateAfter v k 0 = { ks := k, rc := 0, sk := .zero } := rfl

theorem keyStateAfter_succ (v : Variant) (k : Vector Byte 32) (n : Nat) :
    keyStateAfter v k (n + 1) = kStep v (keyStateAfter v k n).ks (keyStateAfter v k n).rc := rfl

theorem subkey_succ (v : Variant) (k : Vector Byte 32) (n : Nat) :
    subkey v k (n + 1) = (kStep v (keyStateAfter v k n).ks (keyStateAfter v k n).rc).sk := rfl

theorem encryptAfter_zero (sk : Nat → Lanes) (l r : Lanes) : encryptAfter sk l r 0 = (l, r) := rfl

theorem encryptAfter_succ (sk : Nat → Lanes) (l r : Lanes) (n : Nat) : encryptAfter sk l r (n + 1) =
    encryptBranches (n + 1) (sk (n + 1)) (encryptAfter sk l r n).1 (encryptAfter sk l r n).2 := rfl

theorem decryptAfter_zero (total : Nat) (sk : Nat → Lanes) (l r : Lanes) : decryptAfter total sk l r 0 = (l, r) := rfl

theorem decryptAfter_succ (total : Nat) (sk : Nat → Lanes) (l r : Lanes) (n : Nat) :
    decryptAfter total sk l r (n + 1) = decryptBranches (n + 1) (sk (total + 1 - (n + 1)))
      (decryptAfter total sk l r n).1 (decryptAfter total sk l r n).2 := rfl

@[simp] theorem leftOfBlock_blockOf (l r : Lanes) : leftOfBlock (blockOf l r) = l := rfl

@[simp] theorem rightOfBlock_blockOf (l r : Lanes) : rightOfBlock (blockOf l r) = r := rfl

/-- A block is its two branches (20_memory.md R43). -/
theorem blockOf_branches (b : Vector Byte 8) : blockOf (leftOfBlock b) (rightOfBlock b) = b := by
  refine Vector.ext fun i hi => ?_
  have : i = 0 ∨ i = 1 ∨ i = 2 ∨ i = 3 ∨ i = 4 ∨ i = 5 ∨ i = 6 ∨ i = 7 := by omega
  rcases this with rfl | rfl | rfl | rfl | rfl | rfl | rfl | rfl <;> rfl

end Sys2Proof.Machine
end

