-- ==== Sys2Proof/Laws/PerInstr.lean ====
section
/-! SUPPORT. Statements about every command word, one lemma per constructor: its byte has the fields of the table's row. -/

namespace Sys2Proof.Laws.TableFields

/-- The byte of a command word has well-formed fields that name its operation and its variant (30_encoding.md R70, R71). -/
def Statement (i : Instr) : Prop :=
  (commandFields (encode i)).wellFormed = true ∧ opCodeOfField (commandFields (encode i)).op = i.opCode ∧
    variantOfField (commandFields (encode i)).var = i.variant

theorem expandK128 : Statement .expandK128 := ⟨by decide, by decide, by decide⟩
theorem encryptK128 : Statement .encryptK128 := ⟨by decide, by decide, by decide⟩
theorem decryptK128 : Statement .decryptK128 := ⟨by decide, by decide, by decide⟩
theorem expandK256 : Statement .expandK256 := ⟨by decide, by decide, by decide⟩
theorem encryptK256 : Statement .encryptK256 := ⟨by decide, by decide, by decide⟩
theorem decryptK256 : Statement .decryptK256 := ⟨by decide, by decide, by decide⟩

end Sys2Proof.Laws.TableFields
end

