-- ==== Sys2Proof/Laws/Step.lean ====
section
/-! SUPPORT. The step of the machine, event by event, and everything a host write can do, said once. -/

namespace Sys2Proof.Machine

theorem step_empty {s : State} (h : s.schedule = []) : step s = engineStep s := by simp [step, h]

theorem step_event {s : State} {e : Event} {rest : List Event} (h : s.schedule = e :: rest) :
    step s = performEvent e (s.withSchedule rest) := by simp [step, h]

/-- A byte that is no command word is refused (44_host_commands.md R150, 60_exceptions.md R171). -/
theorem commandWrite_illegal {s : State} {c : Byte} {x : DecodeReject} (hb : s.status.busy = false)
    (hc : decode c = .error x) : commandWrite c s = .next (refuse .illegalCommand s) := by simp [commandWrite, hb, hc]

/-- A command word written to `CMD` is executed, busy or idle. -/
theorem commandWrite_ok {s : State} {c : Byte} {i : Instr} (hc : decode c = .ok i) : commandWrite c s = exec i s := by
  unfold commandWrite
  split_ifs with hb
  · rw [exec_eq, issue_busy hb]
  · simp [hc]

/-- All that a host write can do (44_host_commands.md R161). -/
theorem hostWrite_cases (a : Addr) (v : Byte) (s : State) :
    ((addressMap a).writable = false ∧ hostWrite a v s = .next s) ∨
    ((addressMap a).writable = true ∧ s.status.busy = true ∧ hostWrite a v s = .next (dropWrite s)) ∨
    (a = 0x030 ∧ s.status.busy = false ∧ hostWrite a v s = commandWrite v s) ∨
    ((addressMap a).writable = true ∧ a ≠ 0x030 ∧ s.status.busy = false ∧
      hostWrite a v s = .next (s.storeByte (addressMap a) v)) := by
  unfold hostWrite
  split_ifs with h1 h2 h3
  · exact .inl ⟨h1, rfl⟩
  · exact .inr (.inl ⟨by simpa using h1, h2, rfl⟩)
  · exact .inr (.inr (.inl ⟨(addressMap_eq_cmd a).1 h3, by simpa using h2, rfl⟩))
  · exact .inr (.inr (.inr ⟨by simpa using h1, fun e => h3 ((addressMap_eq_cmd a).2 e), by simpa using h2, rfl⟩))

/-- All that a byte written to `CMD` can do: it always answers a next state. -/
theorem commandWrite_cases (c : Byte) (s : State) :
    (s.status.busy = true ∧ commandWrite c s = .next (dropWrite s)) ∨
    (s.status.busy = false ∧ ∃ e, commandWrite c s = .next (refuse e s)) ∨
    (s.status.busy = false ∧ ∃ i, decode c = .ok i ∧ boundaryCheck i.opCode i.variant s = none ∧
      commandWrite c s = .next (acceptCommon i.opCode i.variant (loadsOf i s))) := by
  cases hb : s.status.busy
  · cases hc : decode c with
    | error x => exact .inr (.inl ⟨rfl, _, commandWrite_illegal hb hc⟩)
    | ok i =>
      rw [commandWrite_ok hc, exec_eq]
      rcases issue_cases i.opCode i.variant (loadsOf i) s with ⟨h, _⟩ | ⟨_, e, _, he⟩ | ⟨_, hn, he⟩
      · simp [hb] at h
      · exact .inr (.inl ⟨rfl, e, by rw [he]⟩)
      · exact .inr (.inr ⟨rfl, i, rfl, hn, by rw [he]⟩)
  · exact .inl ⟨rfl, by simp [commandWrite, hb]⟩

/-- A host write always answers a next state. -/
theorem hostWrite_next (a : Addr) (v : Byte) (s : State) : ∃ t : State, hostWrite a v s = .next t := by
  rcases hostWrite_cases a v s with ⟨_, h⟩ | ⟨_, _, h⟩ | ⟨_, _, h⟩ | ⟨_, _, _, h⟩
  · exact ⟨_, h⟩
  · exact ⟨_, h⟩
  · rw [h]
    rcases commandWrite_cases v s with ⟨_, h⟩ | ⟨_, _, h⟩ | ⟨_, _, _, _, h⟩ <;> exact ⟨_, h⟩
  · exact ⟨_, h⟩

end Sys2Proof.Machine

namespace Sys2Proof

open Sys2Proof.Machine

theorem runSteps_zero (s : State) : runSteps 0 s = .next s := rfl

/-- A run of one more step, when the first answers `t`. -/
theorem runSteps_succ {k : Nat} {s t : State} (h : step s = .next t) : runSteps (k + 1) s = runSteps k t := by
  simp [runSteps, h]

/-- What the first step of a run that reaches a state did. -/
theorem runSteps_succ_next {k : Nat} {s u : State} (h : runSteps (k + 1) s = .next u) :
    ∃ t : State, step s = .next t ∧ runSteps k t = .next u := by
  unfold runSteps at h
  split at h
  · exact ⟨_, ‹_›, h⟩
  · cases h
  · cases h

/-- Runs compose. -/
theorem runSteps_add {j k : Nat} {s t : State} (h : runSteps j s = .next t) : runSteps (j + k) s = runSteps k t := by
  induction j generalizing s with
  | zero => cases h; simp
  | succ j ih =>
    obtain ⟨u, hu, hr⟩ := runSteps_succ_next h
    rw [Nat.add_right_comm, runSteps_succ hu, ih hr]

/-- The host's run of any core, one step unfolded. -/
theorem core_run_succ (M : Host.Core) (k : Nat) (s : M.State) : M.run (k + 1) s =
    match M.step s with
    | .next t => M.run k t
    | .fault x => .fault x
    | .refused x => .refused x := rfl

/-- The host's run of the core is the same run. -/
theorem core_run_eq (k : Nat) (s : State) : Host.Core.run Sys2Proof.core k s = runSteps k s := by
  induction k generalizing s with
  | zero => rfl
  | succ k ih =>
    refine (core_run_succ Sys2Proof.core k s).trans ?_
    unfold runSteps
    cases hs : step s with
    | next t =>
      have hs' : Sys2Proof.core.step s = .next t := hs
      rw [hs']
      exact ih t
    | fault x =>
      have hs' : Sys2Proof.core.step s = .fault x := hs
      rw [hs']
      rfl
    | refused x =>
      have hs' : Sys2Proof.core.step s = .refused x := hs
      rw [hs']
      rfl

end Sys2Proof
end

