-- ==== Sys2Proof/Tests/Slice0.lean ====
section
/-! SUPPORT. Smoke tests of WellFormed, decode tests on words written out bit by bit, the spec's own vectors on single steps,
and for every statement with hypotheses a concrete state that meets them all. -/

namespace Sys2Proof.Tests

open Sys2Proof Sys2Proof.Machine

/-! ### Small states -/

/-- Idle, with every length register as variant `v` wants it (00_scope.md R4). -/
def ready : Variant → State
  | .k128 => { State.reset with keylen := 16, blklen := 8, schlen := 65 }
  | .k256 => { State.reset with keylen := 32, blklen := 8, schlen := 129 }

/-- Busy with an operation after `n` of its half-rounds, the accumulator counting along (42_key_schedule.md R111). -/
def running (op : OpCode) (v : Variant) (n : Nat) : State :=
  { State.reset with
    status := { Status.reset with busy := true }
    op := op, var := v, hr := BitVec.ofNat 8 n, rc := BitVec.ofNat 32 (n * delta.toNat) }

/-- The events to come. -/
def facing (s : State) (es : List Event) : State := { s with schedule := es }

/-- What the next state holds, if there is one. -/
def afterward {α : Type} (f : State → α) : Host.Outcome State Fault Refusal → Option α
  | .next t => some (f t)
  | .fault _ => none
  | .refused _ => none

/-- Idle with these length registers, a byte written to `CMD` in one step: `STATUS` afterwards (95_test_vectors.md 2.8). -/
def statusAfter (c keylen blklen schlen : Byte) : Option Byte :=
  afterward (fun t => t.status.toByte)
    (step (facing { State.reset with keylen := keylen, blklen := blklen, schlen := schlen } [.write 0x030 c]))

/-- `STATUS` and what address `a` reads as, after one step that writes `v` to it (95_test_vectors.md 2.9). -/
def writtenThenRead (s : State) (a : Addr) (v : Byte) : Option (Byte × Byte) :=
  afterward (fun t => (t.status.toByte, hostRead a t)) (step (facing s [.write a v]))

/-! ### WellFormed refuses an ill-formed term of each kind -/

theorem test_wellFormed_refuses_reserved_op : (CommandFields.mk 0 1 0).wellFormed = false := by decide
theorem test_wellFormed_refuses_reserved_bits : (CommandFields.mk 1 0 1).wellFormed = false := by decide
theorem test_wellFormed_refuses_key_of_15 : (ScriptLine.loadKey (List.replicate 15 0)).wellFormed = false := by decide
theorem test_wellFormed_refuses_key_of_24 : (ScriptLine.loadKey (List.replicate 24 0)).wellFormed = false := by decide
theorem test_wellFormed_refuses_block_of_9 : (ScriptLine.loadBlk (List.replicate 9 0)).wellFormed = false := by decide
theorem test_wellFormed_refuses_readEks_129 : (ScriptLine.readEks 129).wellFormed = false := by decide
theorem test_wellFormed_refuses_loadEks_129 : (ScriptLine.loadEks 129 0 0 0 0).wellFormed = false := by decide

/-! ### Decoding: `RSV` bits 7:3, `VAR` bit 2, `OP` bits 1:0 (30_encoding.md R70, R71) -/

theorem test_decode_expandK128 : decode (0b00000#5 ++ 0b0#1 ++ 0b01#2) = .ok .expandK128 := by rfl
theorem test_decode_encryptK128 : decode (0b00000#5 ++ 0b0#1 ++ 0b10#2) = .ok .encryptK128 := by rfl
theorem test_decode_decryptK128 : decode (0b00000#5 ++ 0b0#1 ++ 0b11#2) = .ok .decryptK128 := by rfl
theorem test_decode_expandK256 : decode (0b00000#5 ++ 0b1#1 ++ 0b01#2) = .ok .expandK256 := by rfl
theorem test_decode_encryptK256 : decode (0b00000#5 ++ 0b1#1 ++ 0b10#2) = .ok .encryptK256 := by rfl
theorem test_decode_decryptK256 : decode (0b00000#5 ++ 0b1#1 ++ 0b11#2) = .ok .decryptK256 := by rfl
theorem test_decode_rejects_op_0 : decode 0x00 = .error .reservedOp ∧ decode 0x04 = .error .reservedOp := ⟨rfl, rfl⟩
theorem test_decode_rejects_reserved_bits :
    decode 0x08 = .error .reservedBits ∧ decode 0x0A = .error .reservedBits ∧ decode 0x11 = .error .reservedBits ∧
      decode 0x82 = .error .reservedBits ∧ decode 0xFF = .error .reservedBits := ⟨rfl, rfl, rfl, rfl, rfl⟩
theorem test_decodeTableWord_reads_a_byte :
    decodeTableWord 8 0x05 = some .expandK256 ∧ decodeTableWord 8 0x12 = none ∧ decodeTableWord 16 0x05 = none := by decide

/-! ### Units (95_test_vectors.md 2.1 to 2.5) -/

theorem test_beta_spells_the_table :
    beta ⟨0xAA, 0xCC, 0xF0, 0x00⟩ = ⟨0x99, 0xD2, 0x9C, 0xE4⟩ ∧ beta ⟨0xAA, 0xCC, 0xF0, 0xFF⟩ = ⟨0x96, 0xAC, 0x2B, 0x1E⟩ := by
  decide
theorem test_beta_B12 :
    beta ⟨0xA5, 0x5A, 0xC3, 0x3C⟩ = ⟨0x3C, 0x5A, 0x24, 0xFF⟩ ∧
      betaByTable ⟨0xA5, 0x5A, 0xC3, 0x3C⟩ = ⟨0x3C, 0x5A, 0x24, 0xFF⟩ := by decide
theorem test_shiftLanes_H4_H7 :
    shiftLanes ⟨0x01, 0x80, 0x80, 0x80⟩ = ⟨0x01, 0x01, 0x04, 0x10⟩ ∧
      shiftLanes ⟨0xA5, 0xA5, 0xA5, 0xA5⟩ = ⟨0xA5, 0x4B, 0x2D, 0xB4⟩ := by decide
theorem test_invShiftLanes : invShiftLanes ⟨0x12, 0x34, 0x56, 0x78⟩ = ⟨0x12, 0x1A, 0xCA, 0xC3⟩ := by decide
theorem test_switchLanes_W3 :
    switchLanes ⟨0xAA, 0, 0, 0⟩ = ⟨0, 0xAA, 0, 0⟩ ∧ invSwitchLanes ⟨0xAA, 0, 0, 0⟩ = ⟨0, 0, 0, 0xAA⟩ := by decide
theorem test_halfRoundF_F6 : halfRoundF ⟨0x00, 0x01, 0x02, 0x03⟩ ⟨0xBC, 0x7D, 0x3C, 0xA4⟩ = ⟨0xEB, 0xFC, 0x6C, 0xBB⟩ := by decide
theorem test_derive_DS6_DS7 :
    bytesLe32 (le32 ⟨0x9E, 0, 0, 0⟩ + 0x3C6EF372) = ⟨0x10, 0xF4, 0x6E, 0x3C⟩ ∧
      bytesLe32 (le32 ⟨0, 0, 0, 0x80⟩ + 0x80000000) = ⟨0, 0, 0, 0⟩ := by decide
/-- Key byte `i` of row ST4 is `0x0F * (i + 1)`. -/
theorem test_kStep_ST4 :
    (kStep .k128 (Vector.ofFn fun i : Fin 32 => BitVec.ofNat 8 (0x0F * (i.val + 1))) 0).sk = ⟨0xF5, 0xC4, 0x91, 0x07⟩ := by decide
theorem test_variants_part_at_subkey_6 :
    subkey .k128 (Vector.replicate 32 0) 6 = ⟨0x6D, 0x93, 0xC6, 0xEC⟩ ∧
      subkey .k256 (Vector.replicate 32 0) 6 = ⟨0x6D, 0xDA, 0x4C, 0xB5⟩ := by decide

/-! ### Command words, two tests each (95_test_vectors.md 2.8, rows X1 to X29) -/

theorem test_expandK128_accepted : statusAfter 0x01 16 0 0 = some 0x01 := by decide
theorem test_expandK128_refused :
    statusAfter 0x01 0 8 65 = some 0x14 ∧ statusAfter 0x01 32 8 65 = some 0x14 ∧ statusAfter 0x01 15 8 65 = some 0x14 := by decide
theorem test_expandK256_accepted : statusAfter 0x05 32 0 0 = some 0x01 := by decide
theorem test_expandK256_refused : statusAfter 0x05 16 8 129 = some 0x14 := by decide
theorem test_encryptK128_accepted : statusAfter 0x02 16 8 0 = some 0x01 := by decide
theorem test_encryptK128_refused :
    statusAfter 0x02 16 0 65 = some 0x1C ∧ statusAfter 0x02 16 9 65 = some 0x1C ∧ statusAfter 0x02 32 8 65 = some 0x14 ∧
      statusAfter 0x02 0 0 65 = some 0x14 ∧ statusAfter 0x02 17 7 65 = some 0x14 := by decide
theorem test_encryptK256_accepted : statusAfter 0x06 32 8 0 = some 0x01 := by decide
theorem test_encryptK256_refused : statusAfter 0x06 16 8 129 = some 0x14 ∧ statusAfter 0x06 32 16 129 = some 0x1C := by decide
theorem test_decryptK128_accepted : statusAfter 0x03 0 8 65 = some 0x01 := by decide
theorem test_decryptK128_refused :
    statusAfter 0x03 16 8 0 = some 0x24 ∧ statusAfter 0x03 16 8 129 = some 0x24 ∧ statusAfter 0x03 16 8 64 = some 0x24 ∧
      statusAfter 0x03 16 0 65 = some 0x1C ∧ statusAfter 0x03 16 0 0 = some 0x1C := by decide
theorem test_decryptK256_accepted : statusAfter 0x07 0 8 129 = some 0x01 := by decide
theorem test_decryptK256_refused : statusAfter 0x07 32 8 65 = some 0x24 ∧ statusAfter 0x07 32 7 65 = some 0x1C := by decide
theorem test_illegal_bytes_refused :
    statusAfter 0x00 16 8 65 = some 0x0C ∧ statusAfter 0x04 32 8 129 = some 0x0C ∧ statusAfter 0x08 16 8 65 = some 0x0C ∧
      statusAfter 0x0A 16 8 65 = some 0x0C ∧ statusAfter 0xFF 16 8 65 = some 0x0C := by decide

/-! ### Host transactions (95_test_vectors.md 2.9) -/

theorem test_reads_after_reset :
    hostRead 0x031 State.reset = 0x00 ∧ hostRead 0x030 State.reset = 0x00 ∧ hostRead 0x035 State.reset = 0x00 ∧
      hostRead 0x3FF State.reset = 0x00 ∧ hostRead 0x604 State.reset = 0x00 ∧ hostRead 0x7FF State.reset = 0x00 := by decide
theorem test_unwritable_writes_dropped :
    writtenThenRead State.reset 0x035 0xAA = some (0x00, 0x00) ∧ writtenThenRead State.reset 0x028 0xAA = some (0x00, 0x00) ∧
      writtenThenRead State.reset 0x031 0xFF = some (0x00, 0x00) := by decide
theorem test_registers_store :
    writtenThenRead State.reset 0x01F 0x5A = some (0x00, 0x5A) ∧ writtenThenRead State.reset 0x034 0x41 = some (0x00, 0x41) ∧
      writtenThenRead State.reset 0x032 0xFF = some (0x00, 0xFF) := by decide
theorem test_schedule_memory_stores :
    writtenThenRead State.reset 0x400 0x77 = some (0x00, 0x77) ∧
      writtenThenRead State.reset 0x603 0x99 = some (0x00, 0x99) := by decide
theorem test_busy_writes_set_overrun :
    writtenThenRead (running .encrypt .k128 0) 0x000 0x11 = some (0x41, 0x00) ∧
      writtenThenRead (running .encrypt .k128 0) 0x030 0x01 = some (0x41, 0x00) := by decide
theorem test_busy_unwritable_writes_leave_overrun :
    writtenThenRead (running .encrypt .k128 0) 0x028 0x11 = some (0x01, 0x00) ∧
      writtenThenRead (running .encrypt .k128 0) 0x035 0x11 = some (0x01, 0x00) := by decide

/-! ### Engine steps (95_test_vectors.md, table E1 and vector V1) -/

theorem test_expand_first_step :
    afterward (fun t => (t.entry 1, t.rc, t.hr)) (step (running .expand .k128 0)) =
      some (⟨0xB9, 0x79, 0x37, 0x9E⟩, 0x9E3779B9, 1) := by decide
theorem test_encrypt_first_half_round :
    afterward (fun t => (t.l, t.r)) (step (running .encrypt .k128 0)) =
      some (⟨0x00, 0x00, 0x00, 0x00⟩, ⟨0xEF, 0xB7, 0x39, 0xE9⟩) := by decide

/-- Vector V1's first decryption half-round, with `EKS[64]` of table E1 written by the host. -/
theorem test_decrypt_first_half_round :
    afterward (fun t => (t.l, t.r))
      (step { running .decrypt .k128 0 with
        l := ⟨0x0B, 0x19, 0xA6, 0xDE⟩, r := ⟨0x7D, 0x4C, 0x69, 0x06⟩
        eks := [(0x500, 0xAB), (0x501, 0x6E), (0x502, 0xA6), (0x503, 0x8B)] }) =
      some (⟨0xA4, 0xC4, 0x40, 0x48⟩, ⟨0x7D, 0x4C, 0x69, 0x06⟩) := by decide
theorem test_finish_reports_done :
    afterward (fun t => (t.status.toByte, t.schlen)) (step (running .expand .k128 64)) = some (0x02, 0x41) ∧
      afterward (fun t => (t.status.toByte, t.schlen)) (step (running .expand .k256 128)) = some (0x02, 0x81) := by decide
theorem test_reset_event : afterward (fun t => t.status.toByte) (step (facing (running .encrypt .k256 7) [.reset])) = some 0x00 := by
  decide
theorem test_withFetchWord_runs_it :
    afterward (fun t => t.status.toByte) (step (State.reset.withFetchWord 8 0x07)) = some 0x1C := by decide

/-! ### Every hypothesis can be met: one theorem per statement that has any, each clause in its order -/

/-- The three ways a byte can be illegal, and the two boundary bytes of each. -/
theorem witness_IllegalByteRefused :
    (facing State.reset [.write 0x030 0x00]).schedule = .write 0x030 0x00 :: [] ∧ Idle (facing State.reset [.write 0x030 0x00]) ∧
      ((0x00 : Byte).extractLsb' 0 2 = 0 ∧ (0x04 : Byte).extractLsb' 0 2 = 0) ∧
      ((0x09 : Byte).extractLsb' 3 5 ≠ 0 ∧ (0xFF : Byte).extractLsb' 3 5 ≠ 0) := by decide

theorem witness_StepRunsDecodedWord :
    ((facing State.reset [.write 0x030 0x01]).schedule = .write 0x030 0x01 :: [] ∧ decode 0x01 = .ok .expandK128) ∧
      decodeTableWord 8 1 = some .expandK128 ∧ decodeTableWord 8 7 = some .decryptK256 := ⟨⟨rfl, rfl⟩, by decide, by decide⟩

theorem witness_StepFollowsSchedule :
    (running .expand .k128 0).schedule = [] ∧ (facing (running .expand .k128 0) [.engine]).schedule = .engine :: [] ∧
      ((facing (running .expand .k128 0) [.run]).schedule = .run :: [] ∧
        (facing (running .expand .k128 0) [.run]).status.busy = true) ∧
      ((facing State.reset [.run]).schedule = .run :: [] ∧ Idle (facing State.reset [.run])) := by decide

/-- The bounds of the table index and of the byte in an entry, and a command word. -/
theorem witness_ResetValues : ((0 ≤ 128 ∧ 0 ≤ 3) ∧ 128 ≤ 128 ∧ 3 ≤ 3) ∧ decode 0x07 = .ok .decryptK256 := ⟨by decide, rfl⟩

theorem witness_ResetFromAnyState :
    (facing (running .decrypt .k256 128) [.reset]).schedule = .reset :: [] := by decide

theorem witness_ResetAbandonsOperation :
    ((facing (running .encrypt .k128 64) [.reset]).schedule = .reset :: [] ∧
      (facing (running .encrypt .k128 64) [.reset]).status.busy = true) ∧
    ((running .encrypt .k128 64).status.busy = true ∧
      (∀ rest : List Event, (running .encrypt .k128 64).schedule ≠ .reset :: rest) ∧
      ∃ t : State, step (running .encrypt .k128 64) = .next t ∧ t.status.busy = false) :=
  ⟨by decide, by decide, by simp [running, State.reset], _, rfl, rfl⟩

/-- The first and the last byte of the table; the host writes that byte, or another. -/
theorem witness_EksByteFixedUntilWritten :
    Idle State.reset ∧ State.reset.eks.lookup (0x400 + 4 * 0 + 0) = none ∧ State.reset.eks.lookup (0x400 + 4 * 128 + 3) = none ∧
      (0x603 : Addr) ≠ 0x030 ∧ (∃ t : State, hostWrite 0x603 0x5A State.reset = .next t) ∧
      (∃ t : State, hostWrite 0x000 0x5A State.reset = .next t) :=
  ⟨by decide, by decide, by decide, by decide, ⟨_, rfl⟩, _, rfl⟩

theorem witness_HostReadReturns :
    (0x035 ≤ (0x035 : Addr).toNat ∧ (0x035 : Addr).toNat ≤ 0x3FF) ∧ (0x035 ≤ (0x3FF : Addr).toNat ∧ (0x3FF : Addr).toNat ≤ 0x3FF) ∧
      0x604 ≤ (0x604 : Addr).toNat ∧ 0x604 ≤ (0x7FF : Addr).toNat ∧
      (facing State.reset [.read 0x031]).schedule = .read 0x031 :: [] := by decide

theorem witness_AddressMapRoundTrips :
    (Target.key 31).address = some 0x01F ∧ (Target.din 0).address = some 0x020 ∧ (Target.dout 7).address = some 0x02F ∧
      (Target.eks 0 0).address = some 0x400 ∧ (Target.eks 128 3).address = some 0x603 ∧
      addressMap 0x000 ≠ .unmapped ∧ addressMap 0x034 ≠ .unmapped ∧ addressMap 0x603 ≠ .unmapped := by decide

/-- Every address range of both clauses at its ends. -/
theorem witness_UnbackedAccessInert :
    (∀ a ∈ ([0x028, 0x02F, 0x031, 0x035, 0x3FF, 0x604, 0x7FF] : List Addr),
      (facing State.reset [.write a 1]).schedule = .write a 1 :: [] ∧
      ((0x028 ≤ a.toNat ∧ a.toNat ≤ 0x02F) ∨ a = 0x031 ∨ (0x035 ≤ a.toNat ∧ a.toNat ≤ 0x3FF) ∨ 0x604 ≤ a.toNat)) ∧
    (∀ a ∈ ([0x030, 0x035, 0x3FF, 0x604, 0x7FF] : List Addr),
      a = 0x030 ∨ (0x035 ≤ a.toNat ∧ a.toNat ≤ 0x3FF) ∨ 0x604 ≤ a.toNat) := by
  constructor <;> intro a ha <;> fin_cases ha <;> simp [facing]

theorem witness_BusyWriteDropped :
    ∀ a ∈ ([0x000, 0x027, 0x030, 0x032, 0x034, 0x400, 0x603] : List Addr),
      (facing (running .decrypt .k256 128) [.write a 1]).schedule = .write a 1 :: [] ∧
      (facing (running .decrypt .k256 128) [.write a 1]).status.busy = true ∧
      (a.toNat ≤ 0x027 ∨ a = 0x030 ∨ (0x032 ≤ a.toNat ∧ a.toNat ≤ 0x034) ∨ (0x400 ≤ a.toNat ∧ a.toNat ≤ 0x603)) := by
  intro a ha; fin_cases ha <;> simp [facing, running]

theorem witness_IdleWriteStoresOneByte :
    ∀ a ∈ ([0x000, 0x027, 0x032, 0x034, 0x400, 0x603] : List Addr),
      (facing State.reset [.write a 1]).schedule = .write a 1 :: [] ∧ Idle (facing State.reset [.write a 1]) ∧
      (a.toNat ≤ 0x027 ∨ (0x032 ≤ a.toNat ∧ a.toNat ≤ 0x034) ∨ (0x400 ≤ a.toNat ∧ a.toNat ≤ 0x603)) := by
  intro a ha; fin_cases ha <;> simp [facing, State.reset, Status.reset]

theorem witness_ExpandAccepted :
    (Idle (ready .k128) ∧ (ready .k128).keylen = 16) ∧ (Idle (ready .k256) ∧ (ready .k256).keylen = 32) := by decide

theorem witness_EncryptAccepted :
    (Idle (ready .k128) ∧ (ready .k128).keylen = 16 ∧ (ready .k128).blklen = 8) ∧
      (Idle (ready .k256) ∧ (ready .k256).keylen = 32 ∧ (ready .k256).blklen = 8) := by decide

theorem witness_DecryptAccepted :
    (Idle (ready .k128) ∧ (ready .k128).blklen = 8 ∧ (ready .k128).schlen = 65) ∧
      (Idle (ready .k256) ∧ (ready .k256).blklen = 8 ∧ (ready .k256).schlen = 129) := by decide

/-- Each operation in each of its three outcomes: accepted, refused, dropped. -/
theorem witness_CommandFrame :
    (∃ t : State, exec .expandK128 (ready .k128) = .next t) ∧ (∃ t : State, exec .encryptK256 State.reset = .next t) ∧
      (∃ t : State, exec .decryptK128 (running .expand .k128 0) = .next t) ∧
      Instr.encryptK256.opCode ≠ .expand ∧ Instr.expandK128.opCode = .expand ∧ Instr.decryptK128.opCode = .decrypt ∧
      Instr.expandK128.variant = .k128 ∧ 16 ≤ (16 : Fin 32).val ∧ 16 ≤ (31 : Fin 32).val ∧ Idle (ready .k128) :=
  ⟨⟨_, rfl⟩, ⟨_, rfl⟩, ⟨_, rfl⟩, by decide, by decide, by decide, by decide, by decide, by decide, by decide⟩

theorem witness_InvalidKeyLengthRefused :
    (Idle (ready .k256) ∧ (ready .k256).keylen ≠ 16) ∧ (Idle (ready .k128) ∧ (ready .k128).keylen ≠ 32) ∧
      Idle State.reset ∧ ∃ t : State, exec .decryptK128 State.reset = .next t :=
  ⟨by decide, by decide, by decide, _, rfl⟩

theorem witness_InvalidBlockLengthRefused :
    (∀ b ∈ ([0, 7, 9] : List Byte),
      (Idle { ready .k128 with blklen := b } ∧ ({ ready .k128 with blklen := b } : State).keylen = 16 ∧ b ≠ 8) ∧
      (Idle { ready .k256 with blklen := b } ∧ ({ ready .k256 with blklen := b } : State).keylen = 32 ∧ b ≠ 8)) ∧
      (Idle State.reset ∧ State.reset.blklen ≠ 8) ∧
      Idle (ready .k256) ∧ ∃ t : State, exec .expandK256 (ready .k256) = .next t :=
  ⟨by decide, by decide, by decide, _, rfl⟩

theorem witness_InvalidScheduleLengthRefused :
    (∀ n ∈ ([0, 64, 66, 129] : List Byte), Idle { ready .k128 with schlen := n } ∧ (ready .k128).blklen = 8 ∧ n ≠ 65) ∧
      (∀ n ∈ ([0, 65, 128, 130] : List Byte), Idle { ready .k256 with schlen := n } ∧ (ready .k256).blklen = 8 ∧ n ≠ 129) ∧
      Instr.encryptK128.opCode ≠ .decrypt ∧ Idle (ready .k128) ∧ ∃ t : State, exec .encryptK128 (ready .k128) = .next t :=
  ⟨by decide, by decide, by decide, by decide, _, rfl⟩

theorem witness_RefusalPriority :
    (Instr.encryptK128.opCode = .encrypt ∧ Idle State.reset ∧ State.reset.keylen.toNat ≠ klen .k128 ∧ State.reset.blklen ≠ 8 ∧
      ∃ t : State, exec .encryptK128 State.reset = .next t) ∧
    (Instr.decryptK256.opCode = .decrypt ∧ State.reset.schlen.toNat ≠ slen .k256 ∧
      ∃ t : State, exec .decryptK256 State.reset = .next t) ∧
    ((∀ i : Instr, (0x04 : Byte) ≠ Sys2Proof.encode i) ∧ ∃ t : State, commandWrite 0x04 State.reset = .next t) :=
  ⟨⟨by decide, by decide, by decide, by decide, _, rfl⟩, ⟨by decide, by decide, _, rfl⟩,
    by intro i; cases i <;> decide, _, rfl⟩

/-- A byte that is wholly accepted and one that is not. -/
theorem witness_CommandWhollyAcceptedOrInert :
    Idle (ready .k128) ∧ (Sys2Proof.encode .encryptK128 = 0x02 ∧ (ready .k128).keylen.toNat = klen Instr.encryptK128.variant) ∧
      afterward (fun t => t.status.busy) (commandWrite 0x02 (ready .k128)) = some true ∧
      afterward (fun t => t.status.busy) (commandWrite 0x06 (ready .k128)) = some false := by decide

theorem witness_BusyCommandDropped :
    (running .expand .k128 0).status.busy = true ∧ (running .decrypt .k256 128).status.busy = true := by decide

theorem witness_ErrorReportStays :
    (Idle (facing State.reset [.read 0x031]) ∧
      (∀ (v : Byte) (rest : List Event), (facing State.reset [.read 0x031]).schedule ≠ .write 0x030 v :: rest) ∧
      (∀ rest : List Event, (facing State.reset [.read 0x031]).schedule ≠ .reset :: rest) ∧
      ∃ t : State, step (facing State.reset [.read 0x031]) = .next t) ∧
    (Idle (ready .k128) ∧ ∃ t : State, commandWrite 0x01 (ready .k128) = .next t) ∧
    (Idle State.reset ∧ ∃ t : State, commandWrite 0x01 State.reset = .next t) ∧
    (facing State.reset [.reset]).schedule = .reset :: [] :=
  ⟨⟨by decide, by simp [facing], by simp [facing], _, rfl⟩, ⟨by decide, _, rfl⟩, ⟨by decide, _, rfl⟩, by decide⟩

/-- The bit positions and the rotation amounts at their ends. -/
theorem witness_BetaIsTheSbox_ShiftLanesRotates : 0 < 8 ∧ 7 < 8 := by decide

theorem witness_KeyRotation :
    ((31 : Fin 32).val < klen .k256 ∧ ((31 : Fin 32).val + 3) % klen .k256 < 32) ∧
      ((15 : Fin 32).val < klen .k128 ∧ ((15 : Fin 32).val + 3) % klen .k128 < 32) ∧
      (klen .k128 ≤ (16 : Fin 32).val ∧ klen .k128 ≤ (31 : Fin 32).val) ∧
      (0 < 1 ∧ 1 < klen .k128) ∧ (0 < 15 ∧ 15 < klen .k128) ∧ (0 < 31 ∧ 31 < klen .k256) := by decide

theorem witness_SubkeyDerivation_ScheduleStepComposes :
    (4 ≤ (4 : Fin 32).val ∧ 4 ≤ (31 : Fin 32).val) ∧ klen .k128 ≤ (16 : Fin 32).val ∧ klen .k128 ≤ (31 : Fin 32).val := by decide

/-- Every row of the rule's table, at `HR = 0`, at the last half-round and at the finish. -/
theorem witness_EngineStepSelection :
    State.reset.status.busy = false ∧
      (∀ op ∈ ([.expand, .encrypt, .decrypt] : List OpCode), ∀ n ∈ ([0, 63] : List Nat),
        (running op .k128 n).status.busy = true ∧ (running op .k128 n).hr.toNat < 2 * rounds .k128 ∧
          (running op .k128 n).op = op) ∧
      (∀ op ∈ ([.expand, .encrypt, .decrypt] : List OpCode),
        (running op .k256 128).status.busy = true ∧ (running op .k256 128).hr.toNat = 2 * rounds .k256 ∧
          (running op .k256 128).op = op) := by decide

/-- The stop is reached by both of its ways. -/
theorem witness_EngineStuckExactlyWhereUnreachable :
    engineStep (running .reserved .k128 0) = .fault .engineStuck ∧ engineStep (running .expand .k128 65) = .fault .engineStuck :=
  ⟨rfl, rfl⟩

theorem witness_ExpandStepWritesOneEntry :
    ((running .expand .k128 63).status.busy = true ∧ (running .expand .k128 63).op = .expand ∧
      (running .expand .k128 63).hr.toNat < 2 * rounds .k128) ∧
    ((running .expand .k128 0).ks = (keyStateAfter .k128 (Vector.replicate 32 0) (running .expand .k128 0).hr.toNat).ks ∧
      (running .expand .k128 0).rc = (keyStateAfter .k128 (Vector.replicate 32 0) (running .expand .k128 0).hr.toNat).rc) ∧
    (0x403 < 0x400 + 4 * (0 + 1) ∧ 0x400 + 4 * (0 + 1) + 3 < 0x408) := by decide

/-- The first half-round is odd, the last even. -/
theorem witness_EncryptHalfRoundStep :
    ((running .encrypt .k128 0).status.busy = true ∧ (running .encrypt .k128 0).op = .encrypt ∧
      (running .encrypt .k128 0).hr.toNat < 2 * rounds .k128 ∧ ((running .encrypt .k128 0).hr.toNat + 1) % 2 = 1) ∧
    ((running .encrypt .k256 127).status.busy = true ∧ (running .encrypt .k256 127).op = .encrypt ∧
      (running .encrypt .k256 127).hr.toNat < 2 * rounds .k256 ∧ ((running .encrypt .k256 127).hr.toNat + 1) % 2 = 0) ∧
    ((running .encrypt .k128 0).ks = (keyStateAfter .k128 (Vector.replicate 32 0) (running .encrypt .k128 0).hr.toNat).ks ∧
      (running .encrypt .k128 0).rc = (keyStateAfter .k128 (Vector.replicate 32 0) (running .encrypt .k128 0).hr.toNat).rc) := by
  decide

theorem witness_DecryptHalfRoundStep :
    ((running .decrypt .k128 0).status.busy = true ∧ (running .decrypt .k128 0).op = .decrypt ∧
      (running .decrypt .k128 0).hr.toNat < 2 * rounds .k128 ∧ ((running .decrypt .k128 0).hr.toNat + 1) % 2 = 1) ∧
    ((running .decrypt .k256 127).status.busy = true ∧ (running .decrypt .k256 127).op = .decrypt ∧
      (running .decrypt .k256 127).hr.toNat < 2 * rounds .k256 ∧ ((running .decrypt .k256 127).hr.toNat + 1) % 2 = 0) ∧
    (1 ≤ 1 ∧ 1 ≤ 2 * rounds .k128) ∧ (1 ≤ 128 ∧ 128 ≤ 2 * rounds .k256) := by decide

/-- A running operation that meets the invariant, about to take its last half-round. -/
theorem witness_running_invariant : Sys2Proof.Invariant (running .encrypt .k128 63) :=
  ⟨by decide, by decide, by decide, fun _ _ => rfl, by decide⟩

theorem witness_FinishWritesResult :
    ((running .expand .k128 64).status.busy = true ∧ (running .expand .k128 64).op = .expand ∧
      (running .expand .k128 64).hr.toNat = 2 * rounds .k128) ∧
    ((running .encrypt .k128 64).status.busy = true ∧ (running .encrypt .k128 64).op = .encrypt ∧
      (running .encrypt .k128 64).hr.toNat = 2 * rounds .k128) ∧
    ((running .decrypt .k256 128).status.busy = true ∧ (running .decrypt .k256 128).op = .decrypt ∧
      (running .decrypt .k256 128).hr.toNat = 2 * rounds .k256) ∧
    Sys2Proof.Invariant (running .encrypt .k128 63) ∧ (running .encrypt .k128 63).status.busy = true :=
  ⟨by decide, by decide, by decide, witness_running_invariant, by decide⟩

theorem witness_EngineFrame :
    (∃ t : State, engineStep (running .expand .k128 0) = .next t) ∧ (∃ t : State, engineStep (running .encrypt .k128 64) = .next t) ∧
      (∃ t : State, engineStep (running .decrypt .k128 0) = .next t) ∧ (running .expand .k128 0).op = .expand ∧
      (running .encrypt .k128 64).op ≠ .expand ∧ (running .decrypt .k128 0).op = .decrypt ∧
      (running .expand .k128 0).var = .k128 ∧ 0x403 < 0x404 ∧ 0x604 ≤ 0x604 :=
  ⟨⟨_, rfl⟩, ⟨_, rfl⟩, ⟨_, rfl⟩, by decide, by decide, by decide, by decide, by decide, by decide⟩

theorem witness_AcceptedCommandFinishes :
    (running .encrypt .k256 0).schedule = [] ∧ (running .encrypt .k256 0).status.busy = true ∧
      (running .encrypt .k256 0).status.done = false ∧ (running .encrypt .k256 0).op ≠ .reserved ∧
      (running .encrypt .k256 0).hr = 0 := by decide

theorem witness_ExpandBuildsTable :
    Instr.expandK128.opCode = .expand ∧ Idle (ready .k128) ∧ (ready .k128).schedule = [] ∧
      (ready .k128).keylen.toNat = klen Instr.expandK128.variant := by decide

theorem witness_EncryptComputesCiphertext :
    Instr.encryptK256.opCode = .encrypt ∧ Idle (ready .k256) ∧ (ready .k256).schedule = [] ∧
      (ready .k256).keylen.toNat = klen Instr.encryptK256.variant ∧ (ready .k256).blklen = 8 := by decide

theorem witness_DecryptComputesFromTable :
    Instr.decryptK256.opCode = .decrypt ∧ Idle (ready .k256) ∧ (ready .k256).schedule = [] ∧ (ready .k256).blklen = 8 ∧
      (ready .k256).schlen.toNat = slen Instr.decryptK256.variant := by decide

/-- A table that holds the key's subkeys at the entries read and something else in entry 0. -/
theorem witness_DecryptUndoesEncrypt :
    ∃ table : Nat → Lanes, table 0 = ⟨1, 2, 3, 4⟩ ∧
      ∀ n : Nat, 1 ≤ n → n ≤ 2 * rounds .k128 → table n = subkey .k128 (Vector.replicate 32 0) n :=
  ⟨fun n => if n = 0 then ⟨1, 2, 3, 4⟩ else subkey .k128 (Vector.replicate 32 0) n, rfl,
    fun _ h _ => if_neg (Nat.one_le_iff_ne_zero.1 h)⟩

theorem witness_HardwareRoundTrip :
    Instr.expandK256.opCode = .expand ∧ Instr.encryptK256.opCode = .encrypt ∧ Instr.decryptK256.opCode = .decrypt ∧
      Instr.expandK256.variant = .k256 ∧ Instr.encryptK256.variant = .k256 ∧ Instr.decryptK256.variant = .k256 ∧
      Idle (ready .k256) ∧ (ready .k256).keylen.toNat = klen .k256 ∧ (ready .k256).blklen = 8 ∧
      (facing (ready .k256) [.write 0x030 (Sys2Proof.encode .expandK256), .run, .write 0x030 (Sys2Proof.encode .encryptK256),
        .run]).schedule =
        [.write 0x030 (Sys2Proof.encode .expandK256), .run, .write 0x030 (Sys2Proof.encode .encryptK256), .run] := by decide

theorem witness_StepKeepsInvariant :
    Sys2Proof.Invariant (running .encrypt .k128 63) ∧ ∃ t : State, step (running .encrypt .k128 63) = .next t :=
  ⟨witness_running_invariant, _, rfl⟩

theorem witness_RunNeverStops : Sys2Proof.Invariant (running .encrypt .k128 63) := witness_running_invariant

/-- At the boundary: the events bring `HR` to `2*rounds`, and the one more engine step is the finish. -/
theorem witness_HostCannotDisturbOperation :
    Sys2Proof.Invariant (running .encrypt .k128 63) ∧ (running .encrypt .k128 63).status.busy = true ∧
      ([.write 0x000 0x11, .engine, .read 0x031] : List Event).all Event.isAtomicAccess = true ∧
      (running .encrypt .k128 63).hr.toNat + engineTurns [.write 0x000 0x11, .engine, .read 0x031] ≤ 2 * rounds .k128 :=
  ⟨witness_running_invariant, by decide, by decide, by decide⟩

/-- Two states with different keys, blocks and branches, and a command to come. -/
theorem witness_DataNeverReachesControl :
    SameControl (facing (ready .k128) [.write 0x030 0x02])
        { facing (ready .k128) [.write 0x030 0x02] with key := Vector.replicate 32 0xFF, l := ⟨1, 2, 3, 4⟩ } ∧
      ∃ t : State, runSteps 1 (facing (ready .k128) [.write 0x030 0x02]) = .next t :=
  ⟨⟨rfl, rfl, rfl, rfl, rfl, rfl, rfl, rfl⟩, _, rfl⟩

/-- Two idle states with different private registers, and a command to come. -/
theorem witness_OldPrivateStateUnobservable :
    Idle (facing (ready .k128) [.write 0x030 0x02]) ∧
      SameButPrivate (facing (ready .k128) [.write 0x030 0x02])
        { facing (ready .k128) [.write 0x030 0x02] with l := ⟨1, 2, 3, 4⟩, ks := Vector.replicate 32 0xFF, hr := 64, rc := 5 } ∧
      ∃ t : State, runSteps 1 (facing (ready .k128) [.write 0x030 0x02]) = .next t :=
  ⟨by decide, ⟨rfl, rfl, rfl, rfl, rfl, rfl, rfl, rfl, rfl, rfl, rfl⟩, _, rfl⟩

theorem witness_OverrunIsSticky :
    (∃ t : State, step (facing { State.reset with status := { Status.reset with ovr := true } } [.read 0x000]) = .next t) ∧
    (∀ rest : List Event, ([.read 0x000] : List Event) ≠ .reset :: rest) ∧
    ∃ t : State, step (facing (running .encrypt .k128 0) [.write 0x603 1]) = .next t ∧ t.status.ovr = true ∧
      (facing (running .encrypt .k128 0) [.write 0x603 1]).status.ovr = false ∧
      ∀ rest : List Event, (facing (running .encrypt .k128 0) [.write 0x603 1]).schedule ≠ .reset :: rest :=
  ⟨⟨_, rfl⟩, by simp, _, rfl, rfl, rfl, by simp [facing]⟩

theorem witness_OutputOnlyAtFinish :
    ∃ t : State, step { running .encrypt .k128 64 with l := ⟨1, 2, 3, 4⟩ } = .next t ∧
      t.dout ≠ ({ running .encrypt .k128 64 with l := ⟨1, 2, 3, 4⟩ } : State).dout := ⟨_, rfl, by decide⟩

theorem witness_HostOwnsOperands :
    ∃ t : State, step (facing State.reset [.write 0x01F 0x5A]) = .next t ∧ t.key ≠ (facing State.reset [.write 0x01F 0x5A]).key :=
  ⟨_, rfl, by decide⟩

theorem witness_ScriptLinesExpand :
    (ScriptLine.loadKey (List.replicate 16 0)).wellFormed = true ∧ (ScriptLine.loadKey (List.replicate 32 0)).wellFormed = true ∧
      31 < (List.replicate 32 (0 : Byte)).length ∧ (ScriptLine.loadBlk (List.replicate 8 0)).wellFormed = true ∧
      (ScriptLine.readEks 128).wellFormed = true := by decide

end Sys2Proof.Tests
end

/-! Facts of the state and of a step that the proofs of the 10_state.md family share. -/

namespace Sys2Proof.Machine

/-! ### The loads of an accept -/

/-- The three operations a command word can name, each with its loads. -/
theorem loadsOf_cases (i : Instr) :
    (i.opCode = .expand ∧ loadsOf i = expandLoads i.variant) ∨
    (i.opCode = .encrypt ∧ loadsOf i = encryptLoads i.variant) ∨
    (i.opCode = .decrypt ∧ loadsOf i = decryptLoads) := by
  cases i with
  | expandK128 => exact .inl ⟨rfl, rfl⟩
  | expandK256 => exact .inl ⟨rfl, rfl⟩
  | encryptK128 => exact .inr (.inl ⟨rfl, rfl⟩)
  | encryptK256 => exact .inr (.inl ⟨rfl, rfl⟩)
  | decryptK128 => exact .inr (.inr ⟨rfl, rfl⟩)
  | decryptK256 => exact .inr (.inr ⟨rfl, rfl⟩)

section
variable (i : Instr) (s : State)

@[simp] theorem loadsOf_key : (loadsOf i s).key = s.key := by
  rcases loadsOf_cases i with ⟨_, h⟩ | ⟨_, h⟩ | ⟨_, h⟩ <;> simp [h]
@[simp] theorem loadsOf_din : (loadsOf i s).din = s.din := by
  rcases loadsOf_cases i with ⟨_, h⟩ | ⟨_, h⟩ | ⟨_, h⟩ <;> simp [h]
@[simp] theorem loadsOf_dout : (loadsOf i s).dout = s.dout := by
  rcases loadsOf_cases i with ⟨_, h⟩ | ⟨_, h⟩ | ⟨_, h⟩ <;> simp [h]
@[simp] theorem loadsOf_status : (loadsOf i s).status = s.status := by
  rcases loadsOf_cases i with ⟨_, h⟩ | ⟨_, h⟩ | ⟨_, h⟩ <;> simp [h]
@[simp] theorem loadsOf_keylen : (loadsOf i s).keylen = s.keylen := by
  rcases loadsOf_cases i with ⟨_, h⟩ | ⟨_, h⟩ | ⟨_, h⟩ <;> simp [h]
@[simp] theorem loadsOf_blklen : (loadsOf i s).blklen = s.blklen := by
  rcases loadsOf_cases i with ⟨_, h⟩ | ⟨_, h⟩ | ⟨_, h⟩ <;> simp [h]
@[simp] theorem loadsOf_eks : (loadsOf i s).eks = s.eks := by
  rcases loadsOf_cases i with ⟨_, h⟩ | ⟨_, h⟩ | ⟨_, h⟩ <;> simp [h]
@[simp] theorem loadsOf_eksDraw : (loadsOf i s).eksDraw = s.eksDraw := by
  rcases loadsOf_cases i with ⟨_, h⟩ | ⟨_, h⟩ | ⟨_, h⟩ <;> simp [h]
@[simp] theorem loadsOf_schedule : (loadsOf i s).schedule = s.schedule := by
  rcases loadsOf_cases i with ⟨_, h⟩ | ⟨_, h⟩ | ⟨_, h⟩ <;> simp [h]
@[simp] theorem loadsOf_results : (loadsOf i s).results = s.results := by
  rcases loadsOf_cases i with ⟨_, h⟩ | ⟨_, h⟩ | ⟨_, h⟩ <;> simp [h]

/-- EXPAND marks the table invalid, the other operations leave `SCHLEN` alone (42_key_schedule.md R115). -/
theorem loadsOf_schlen : (loadsOf i s).schlen = if i.opCode = .expand then 0 else s.schlen := by
  rcases loadsOf_cases i with ⟨ho, h⟩ | ⟨ho, h⟩ | ⟨ho, h⟩ <;> simp [h, ho]

/-- The operations that check `KEYLEN` load the scratch key; DECRYPT keeps it. -/
theorem loadsOf_ks : (loadsOf i s).ks = if usesKey i.opCode = true then loadedKey i.variant s.key s.ks else s.ks := by
  rcases loadsOf_cases i with ⟨ho, h⟩ | ⟨ho, h⟩ | ⟨ho, h⟩ <;> simp [h, ho, usesKey]

/-- The operations that check `KEYLEN` clear the accumulator; DECRYPT keeps it. -/
theorem loadsOf_rc : (loadsOf i s).rc = if usesKey i.opCode = true then 0 else s.rc := by
  rcases loadsOf_cases i with ⟨ho, h⟩ | ⟨ho, h⟩ | ⟨ho, h⟩ <;> simp [h, ho, usesKey]

/-- The operations that check `BLKLEN` load the left branch; EXPAND keeps it. -/
theorem loadsOf_l : (loadsOf i s).l = if usesBlock i.opCode = true then leftOfBlock s.din else s.l := by
  rcases loadsOf_cases i with ⟨ho, h⟩ | ⟨ho, h⟩ | ⟨ho, h⟩ <;> simp [h, ho, usesBlock]

/-- The operations that check `BLKLEN` load the right branch; EXPAND keeps it. -/
theorem loadsOf_r : (loadsOf i s).r = if usesBlock i.opCode = true then rightOfBlock s.din else s.r := by
  rcases loadsOf_cases i with ⟨ho, h⟩ | ⟨ho, h⟩ | ⟨ho, h⟩ <;> simp [h, ho, usesBlock]

/-- A K128 word leaves bytes 16 to 31 of the scratch key alone (42_key_schedule.md R115). -/
theorem loadsOf_ks_above {j : Fin 32} (hj : klen i.variant ≤ j.val) : (loadsOf i s).ks.get j = s.ks.get j := by
  rw [loadsOf_ks]
  split_ifs
  · rw [loadedKey_get, if_neg (Nat.not_lt.2 hj)]
  · rfl

end

/-! ### What an engine step leaves alone -/

/-- The host's operands and `OVR` are not the engine's to change (10_state.md R16, R17, R22 to R24). -/
theorem engineStep_operands {s t : State} (h : engineStep s = .next t) :
    t.key = s.key ∧ t.din = s.din ∧ t.keylen = s.keylen ∧ t.blklen = s.blklen ∧ t.status.ovr = s.status.ovr := by
  rcases engineStep_cases h with ⟨_, rfl⟩ | ⟨_, _, ⟨_, rfl⟩ | ⟨_, rfl⟩ | ⟨_, rfl⟩⟩ | ⟨_, _, ⟨_, rfl⟩ | ⟨_, rfl⟩ | ⟨_, rfl⟩⟩ <;>
    simp

/-- An engine step leaves `DOUT` alone or is the finish of ENCRYPT or DECRYPT (43_feistel_engine.md R133, R136). -/
theorem engineStep_dout {s t : State} (h : engineStep s = .next t) :
    t.dout = s.dout ∨
    (s.status.busy = true ∧ s.hr.toNat = halfRounds s.var ∧ (s.op = .encrypt ∨ s.op = .decrypt) ∧
      t.dout = blockOf s.l s.r ∧ t.status = s.status.finished) := by
  rcases engineStep_cases h with ⟨_, rfl⟩ | ⟨_, _, ⟨_, rfl⟩ | ⟨_, rfl⟩ | ⟨_, rfl⟩⟩ |
    ⟨hb, hr, ⟨_, rfl⟩ | ⟨ho, rfl⟩ | ⟨ho, rfl⟩⟩
  · exact .inl rfl
  · exact .inl (expandStep_dout s)
  · exact .inl (encryptHalfRound_dout s)
  · exact .inl (decryptHalfRound_dout s)
  · exact .inl (expandFinish_dout s)
  · exact .inr ⟨hb, hr, .inl ho, encryptFinish_dout s, encryptFinish_status s⟩
  · exact .inr ⟨hb, hr, .inr ho, decryptFinish_dout s, decryptFinish_status s⟩

/-! ### Everything a step of the machine can do -/

theorem performEvent_read (a : Addr) (s : State) :
    performEvent (.read a) s = .next (s.pushResult (hostRead a s)) := rfl

/-- `RUN` on a busy core is an engine step and stays at the head of the schedule (30_encoding.md R75). -/
theorem performEvent_run_busy {s : State} (busy : s.status.busy = true) :
    performEvent .run s = engineStep (s.withSchedule (.run :: s.schedule)) := if_pos busy

/-- `RUN` on an idle core leaves, changing nothing (30_encoding.md R75). -/
theorem performEvent_run_idle {s : State} (idle : s.status.busy = false) : performEvent .run s = .next s :=
  if_neg (by simp [idle])

/-- The step is the engine's turn and leaves the events `es` to come: none was left, the next was an engine step, or it is
a `RUN` on a busy core, which stays (44_host_commands.md R153; 30_encoding.md R75). -/
def EngineTurn (s : State) (es : List Event) : Prop :=
  (s.schedule = [] ∧ es = []) ∨ s.schedule = .engine :: es ∨
    (s.status.busy = true ∧ es = s.schedule ∧ ∃ rest : List Event, s.schedule = .run :: rest)

/-- All that a step from `s` can answer, with the event and the guard of each (20_memory.md R54; 44_host_commands.md R150,
R153, R160, R161; 70_reset_and_hazards.md R200). -/
inductive Moves (s : State) : State → Prop where
  | engine {es : List Event} {t : State} (turn : EngineTurn s es) (next : engineStep (s.withSchedule es) = .next t) : Moves s t
  | runDone {rest : List Event} (event : s.schedule = .run :: rest) (idle : s.status.busy = false) :
      Moves s (s.withSchedule rest)
  | read {a : Addr} {rest : List Event} (event : s.schedule = .read a :: rest) :
      Moves s ((s.withSchedule rest).pushResult (hostRead a (s.withSchedule rest)))
  | unbacked {a : Addr} {v : Byte} {rest : List Event} (event : s.schedule = .write a v :: rest)
      (readOnly : (addressMap a).writable = false) : Moves s (s.withSchedule rest)
  | dropped {a : Addr} {v : Byte} {rest : List Event} (event : s.schedule = .write a v :: rest)
      (writable : (addressMap a).writable = true) (busy : s.status.busy = true) : Moves s (dropWrite (s.withSchedule rest))
  | refused {c : Byte} {rest : List Event} (e : CommandError) (event : s.schedule = .write 0x030 c :: rest)
      (idle : s.status.busy = false) : Moves s (refuse e (s.withSchedule rest))
  | accepted {c : Byte} {rest : List Event} (i : Instr) (event : s.schedule = .write 0x030 c :: rest)
      (idle : s.status.busy = false) (word : decode c = .ok i)
      (checks : boundaryCheck i.opCode i.variant (s.withSchedule rest) = none) :
      Moves s (acceptCommon i.opCode i.variant (loadsOf i (s.withSchedule rest)))
  | stored {a : Addr} {v : Byte} {rest : List Event} (event : s.schedule = .write a v :: rest)
      (writable : (addressMap a).writable = true) (notCmd : a ≠ 0x030) (idle : s.status.busy = false) :
      Moves s ((s.withSchedule rest).storeByte (addressMap a) v)
  | reset {rest : List Event} (event : s.schedule = .reset :: rest) : Moves s (resetCore (s.withSchedule rest))

/-- A host write is one of the five moves that have a write as their event. -/
theorem Moves.of_hostWrite {s t : State} {a : Addr} {v : Byte} {rest : List Event} (hs : s.schedule = .write a v :: rest)
    (h : hostWrite a v (s.withSchedule rest) = .next t) : Moves s t := by
  rcases hostWrite_cases a v (s.withSchedule rest) with ⟨hw, he⟩ | ⟨hw, hb, he⟩ | ⟨rfl, hb, he⟩ | ⟨hw, hn, hb, he⟩
  · cases he.symm.trans h
    exact .unbacked hs hw
  · cases he.symm.trans h
    exact .dropped hs hw hb
  · rcases commandWrite_cases v (s.withSchedule rest) with ⟨hb', _⟩ | ⟨_, e, hc⟩ | ⟨_, i, hi, hk, hc⟩
    · exact absurd (hb.symm.trans hb') Bool.false_ne_true
    · cases (he.trans hc).symm.trans h
      exact .refused e hs hb
    · cases (he.trans hc).symm.trans h
      exact .accepted i hs hb hi hk
  · cases he.symm.trans h
    exact .stored hs hw hn hb

/-- A step is one of the moves. -/
theorem step_moves {s t : State} (h : step s = .next t) : Moves s t := by
  cases hs : s.schedule with
  | nil =>
    rw [step_empty hs] at h
    refine .engine (.inl ⟨hs, rfl⟩) ?_
    rwa [← hs]
  | cons e rest =>
    rw [step_event hs] at h
    cases e with
    | read a =>
      cases h
      exact .read hs
    | write a v => exact .of_hostWrite hs h
    | engine => exact .engine (.inr (.inl hs)) h
    | run =>
      cases hb : s.status.busy with
      | false =>
        cases (performEvent_run_idle (s := s.withSchedule rest) hb).symm.trans h
        exact .runDone hs hb
      | true =>
        refine .engine (.inr (.inr ⟨hb, rfl, rest, hs⟩)) ?_
        rw [hs, ← h]
        exact (performEvent_run_busy (s := s.withSchedule rest) hb).symm
    | reset =>
      cases h
      exact .reset hs

end Sys2Proof.Machine

/-! ### The invariant -/

namespace Sys2Proof.Machine

theorem Status.reset_legal : Status.reset.legal := by decide

/-- An accept leaves legal flags, whatever they were (44_host_commands.md R152). -/
theorem Status.accepted_legal (t : Status) : t.accepted.legal := by simp [Status.legal]

/-- Every error has a code from 1 to 4 (60_exceptions.md R170). -/
theorem CommandError.code_range (e : CommandError) : e.code ≠ 0 ∧ e.code.toNat ≤ 4 := by cases e <;> decide

/-- A refusal on an idle core leaves legal flags, whatever they were (60_exceptions.md R176). -/
theorem Status.refused_legal {t : Status} (idle : t.busy = false) (e : CommandError) : (t.refused e).legal := by
  simpa [Status.legal, idle] using e.code_range

/-- A finish turns legal flags of a busy core into legal flags of an idle one (44_host_commands.md R154). -/
theorem Status.finished_legal {t : Status} (h : t.legal) (busy : t.busy = true) : t.finished.legal := by
  obtain ⟨_, busyErr, _, code⟩ := h
  have err : t.err = false := by simpa [busy] using busyErr
  simpa [Status.legal, err] using code

/-- One more `DELTA` (42_key_schedule.md R111). -/
theorem ofNat_mul_delta_succ (n : Nat) :
    BitVec.ofNat 32 (n * delta.toNat) + delta = BitVec.ofNat 32 ((n + 1) * delta.toNat) := by
  rw [Nat.add_mul, Nat.one_mul, BitVec.ofNat_add, BitVec.ofNat_toNat, BitVec.setWidth_eq]

end Sys2Proof.Machine

namespace Sys2Proof

open Sys2Proof.Machine

/-- On an idle core the invariant is about the flags and the schedule memory alone. -/
theorem Invariant.of_idle {s : State} (idle : Idle s) (flags : s.status.legal) (memory : s.eks.wf) : Invariant s := by
  have notBusy : s.status.busy ≠ true := by simp [show s.status.busy = false from idle]
  exact ⟨flags, fun hb => absurd hb notBusy, fun hb => absurd hb notBusy, fun hb => absurd hb notBusy, memory⟩

theorem Invariant.withSchedule {s : State} (h : Invariant s) (es : List Event) : Invariant (s.withSchedule es) := { h with }

theorem Invariant.pushResult {s : State} (h : Invariant s) (v : Byte) : Invariant (s.pushResult v) := { h with }

theorem Invariant.dropWrite {s : State} (h : Invariant s) : Invariant (dropWrite s) := { h with }

theorem Invariant.resetCore (s : State) : Invariant (resetCore s) :=
  .of_idle rfl Status.reset_legal Memory.wf_nil

theorem Invariant.refuse {s : State} (h : Invariant s) (idle : Idle s) (e : CommandError) : Invariant (refuse e s) :=
  .of_idle idle (Status.refused_legal idle e) h.memory

/-- A byte stored on an idle core: the flags stay, and the schedule memory is written inside its range if at all. -/
theorem Invariant.storeByte {s : State} (h : Invariant s) (idle : Idle s) (t : Target) (v : Byte) :
    Invariant (s.storeByte t v) := by
  have hstatus : (s.storeByte t v).status = s.status := State.storeByte_status s t v
  refine .of_idle ((congrArg Status.busy hstatus).trans idle) (hstatus ▸ h.flags) ?_
  cases t with
  | eks n j => exact Memory.wf_write h.memory v (eksAddress_bounds (by omega) (by omega))
  | _ => exact h.memory

/-- An accept starts the sequencer at 0, with the accumulator cleared and, for EXPAND, the table marked. -/
theorem Invariant.accept {s : State} (h : Invariant s) (i : Instr) :
    Invariant (acceptCommon i.opCode i.variant (loadsOf i s)) where
  flags := Status.accepted_legal _
  sequencer _ := ⟨opCode_ne_reserved i, Nat.zero_le _⟩
  table _ (ho : i.opCode = .expand) := by simp [loadsOf_schlen, ho]
  accumulator _ (ho : i.opCode = .expand ∨ i.opCode = .encrypt) := by
    have hk : usesKey i.opCode = true := by rcases ho with ho | ho <;> simp [ho, usesKey]
    simp [loadsOf_rc, hk]
  memory := by simpa using h.memory

/-- A schedule step or half-round keeps the invariant: it counts `HR` on, and the accumulator along with it where the
operation derives subkeys. -/
theorem Invariant.work {s t : State} (h : Invariant s) (hr : s.hr.toNat < halfRounds s.var)
    (hstatus : t.status = s.status) (hop : t.op = s.op) (hvar : t.var = s.var) (hschlen : t.schlen = s.schlen)
    (hhr : t.hr = BitVec.ofNat 8 (s.hr.toNat + 1)) (hrc : s.op = .expand ∨ s.op = .encrypt → t.rc = s.rc + delta)
    (hmem : t.eks.wf) : Invariant t where
  flags := by simpa only [hstatus] using h.flags
  sequencer hb := by
    rw [hop, hvar, hhr, toNat_nextHr hr]
    exact ⟨(h.sequencer (hstatus ▸ hb)).1, hr⟩
  table hb ho := by
    rw [hschlen]
    exact h.table (hstatus ▸ hb) (hop ▸ ho)
  accumulator hb ho := by
    rw [hop] at ho
    rw [hrc ho, h.accumulator (hstatus ▸ hb) ho, hhr, toNat_nextHr hr, ofNat_mul_delta_succ]
  memory := hmem

/-- A finish keeps the invariant, whatever result it writes. -/
theorem Invariant.finish {s t : State} (h : Invariant s) (hb : s.status.busy = true)
    (hstatus : t.status = s.status.finished) (heks : t.eks = s.eks) : Invariant t :=
  .of_idle (congrArg Status.busy hstatus) (hstatus ▸ Status.finished_legal h.flags hb) (heks ▸ h.memory)

/-- An engine step keeps the invariant. -/
theorem Invariant.engineStep {s t : State} (h : Invariant s) (hstep : engineStep s = .next t) : Invariant t := by
  rcases engineStep_cases hstep with ⟨_, rfl⟩ | ⟨_, hr, ⟨_, rfl⟩ | ⟨_, rfl⟩ | ⟨ho, rfl⟩⟩ |
    ⟨hb, _, ⟨_, rfl⟩ | ⟨_, rfl⟩ | ⟨_, rfl⟩⟩
  · exact h
  · have hn : s.hr.toNat + 1 ≤ 128 := Nat.le_trans hr (halfRounds_le s.var)
    exact h.work hr (by simp) (by simp) (by simp) (by simp) (by simp) (fun _ => by simp [kStep_rc])
      (by simpa using Memory.wf_writeEntry h.memory hn _)
  · exact h.work hr (by simp) (by simp) (by simp) (by simp) (by simp) (fun _ => by simp [kStep_rc]) (by simpa using h.memory)
  · exact h.work hr (by simp) (by simp) (by simp) (by simp) (by simp) (fun hk => by simp [ho] at hk) (by simpa using h.memory)
  · exact h.finish hb (by simp) (by simp)
  · exact h.finish hb (by simp) (by simp)
  · exact h.finish hb (by simp) (by simp)

/-- Settles O51: each move of a step keeps the invariant. -/
theorem stepKeepsInvariant : Obligations.StepKeepsInvariant := by
  intro s t h hstep
  cases step_moves hstep with
  | engine _ hnext => exact (h.withSchedule _).engineStep hnext
  | runDone => exact h.withSchedule _
  | read => exact (h.withSchedule _).pushResult _
  | unbacked => exact h.withSchedule _
  | dropped => exact (h.withSchedule _).dropWrite
  | @refused _ rest e _ idle => exact (h.withSchedule rest).refuse idle e
  | accepted i => exact (h.withSchedule _).accept i
  | @stored _ _ rest _ _ _ idle => exact (h.withSchedule rest).storeByte idle _ _
  | reset => exact .resetCore _

/-- Settles O50: after a reset the core is idle, its flags legal and no byte of the schedule memory listed. -/
theorem resetMeetsInvariant : Obligations.ResetMeetsInvariant :=
  ⟨.of_idle rfl Status.reset_legal Memory.wf_nil, Invariant.resetCore⟩

end Sys2Proof

/-! ### Frames of a command and of a step -/

namespace Sys2Proof.Machine

/-- The register is `KEY`, `DIN`, `KEYLEN` or `BLKLEN`: host-writable, and written by the host alone (10_state.md R16, R17,
R23, R24). -/
def Target.isOperand : Target → Bool
  | .key _ => true
  | .din _ => true
  | .keylen => true
  | .blklen => true
  | .dout _ => false
  | .cmd => false
  | .status => false
  | .schlen => false
  | .eks _ _ => false
  | .unmapped => false

theorem isOperand_iff (a : Addr) : (addressMap a).isOperand = true ↔ (a.toNat ≤ 0x027 ∨ a = 0x032 ∨ a = 0x033) := by
  have keylen : a = 0x032 ↔ a.toNat = 0x032 := by rw [← BitVec.toNat_inj]; rfl
  have blklen : a = 0x033 ↔ a.toNat = 0x033 := by rw [← BitVec.toNat_inj]; rfl
  rw [keylen, blklen]
  unfold addressMap
  split_ifs <;> simp [Target.isOperand] <;> omega

/-- A byte stored anywhere else leaves the operands alone. -/
theorem storeByte_operands {t : Target} (h : t.isOperand = false) (s : State) (v : Byte) :
    (s.storeByte t v).key = s.key ∧ (s.storeByte t v).din = s.din ∧ (s.storeByte t v).keylen = s.keylen ∧
      (s.storeByte t v).blklen = s.blklen := by
  cases t with
  | key | din | keylen | blklen => cases h
  | dout | cmd | status | schlen | eks | unmapped => exact ⟨rfl, rfl, rfl, rfl⟩

/-- `OVR` stays, or the core is reset, or it is set because a write to a writable location was dropped (10_state.md R22). -/
theorem Moves.ovr {s t : State} (h : Moves s t) :
    t.status.ovr = s.status.ovr ∨ (∃ rest : List Event, s.schedule = .reset :: rest) ∨
    (t.status.ovr = true ∧ s.status.busy = true ∧
      ∃ (a : Addr) (v : Byte) (rest : List Event), s.schedule = .write a v :: rest ∧ (addressMap a).writable = true) := by
  cases h with
  | engine _ next =>
    obtain ⟨_, _, _, _, hovr⟩ := engineStep_operands next
    exact .inl hovr
  | dropped event writable busy => exact .inr (.inr ⟨rfl, busy, _, _, _, event, writable⟩)
  | reset event => exact .inr (.inl ⟨_, event⟩)
  | runDone | read | unbacked | refused | accepted | stored => exact .inl (by simp)

/-- `DOUT` stays, or the core is reset, or an ENCRYPT or DECRYPT finishes (10_state.md R18). -/
theorem Moves.dout {s t : State} (h : Moves s t) :
    t.dout = s.dout ∨ (∃ rest : List Event, s.schedule = .reset :: rest) ∨
    (s.status.busy = true ∧ s.hr.toNat = halfRounds s.var ∧ (s.op = .encrypt ∨ s.op = .decrypt) ∧
      t.dout = blockOf s.l s.r ∧ t.status = s.status.finished) := by
  cases h with
  | engine _ next => exact (engineStep_dout next).imp id .inr
  | reset event => exact .inr (.inl ⟨_, event⟩)
  | runDone | read | unbacked | dropped | refused | accepted | stored => exact .inl (by simp)

/-- The operands stay, or the core is reset, or the host stores into one of them while it is idle (10_state.md R16, R17, R23,
R24). -/
theorem Moves.operands {s t : State} (h : Moves s t) :
    (t.key = s.key ∧ t.din = s.din ∧ t.keylen = s.keylen ∧ t.blklen = s.blklen) ∨
    (∃ rest : List Event, s.schedule = .reset :: rest) ∨
    (s.status.busy = false ∧
      ∃ (a : Addr) (v : Byte) (rest : List Event), s.schedule = .write a v :: rest ∧ (addressMap a).isOperand = true) := by
  cases h with
  | engine _ next =>
    obtain ⟨hkey, hdin, hkeylen, hblklen, _⟩ := engineStep_operands next
    exact .inl ⟨hkey, hdin, hkeylen, hblklen⟩
  | reset event => exact .inr (.inl ⟨_, event⟩)
  | @stored a v rest event _ _ idle =>
    cases ho : (addressMap a).isOperand with
    | true => exact .inr (.inr ⟨idle, a, v, rest, event, ho⟩)
    | false => exact .inl (storeByte_operands ho (s.withSchedule rest) v)
  | runDone | read | unbacked | dropped | refused | accepted => exact .inl (by simp)

end Sys2Proof.Machine

namespace Sys2Proof

open Sys2Proof.Machine

/-- Settles O20: a word is dropped, refused or accepted; the first two change `STATUS` alone, and the loads of the third keep
what the frame names. -/
theorem commandFrame : Obligations.CommandFrame := by
  intro i s t h
  rw [exec_eq] at h
  cases h
  rcases issue_cases i.opCode i.variant (loadsOf i) s with ⟨hb, he⟩ | ⟨_, e, _, he⟩ | ⟨_, _, he⟩
  · simp [he, hb]
  · simp [he]
  · rw [he]
    refine ⟨by simp, by simp, by simp, by simp, by simp, fun ho => ?_, fun a => by simp, fun ho => ?_, fun ho => ?_,
      fun hv j hj => ?_, fun _ => by simp, by simp, by simp, by simp⟩
    · simp [loadsOf_schlen, ho]
    · simp [loadsOf_l, loadsOf_r, ho, usesBlock]
    · simp [loadsOf_ks, loadsOf_rc, ho, usesKey]
    · exact loadsOf_ks_above i s (by rwa [hv])

/-- Settles O56: of the moves, only a dropped write sets `OVR`, and only the reset clears it. -/
theorem overrunIsSticky : Obligations.OverrunIsSticky := by
  intro s t hstep notReset
  rcases (step_moves hstep).ovr with hsame | ⟨rest, event⟩ | ⟨hovr, busy, a, v, rest, event, writable⟩
  · exact ⟨hsame.trans, fun hclear hset => by simp [hsame, hclear] at hset⟩
  · exact absurd event (notReset rest)
  · exact ⟨fun _ => hovr, fun _ _ => ⟨busy, a, v, rest, event, (writable_iff a).1 writable⟩⟩

/-- Settles O57: of the moves, only the reset and the finish of ENCRYPT or DECRYPT write `DOUT`. -/
theorem outputOnlyAtFinish : Obligations.OutputOnlyAtFinish := by
  intro s t hstep changed
  rcases (step_moves hstep).dout with hsame | hreset | ⟨busy, hr, hop, hdout, hstatus⟩
  · exact absurd hsame changed
  · exact .inl hreset
  · exact .inr ⟨busy, hr, hop, hdout, by simp [hstatus], by simp [hstatus]⟩

/-- Settles O58: of the moves, only the reset and an idle host write write an operand. -/
theorem hostOwnsOperands : Obligations.HostOwnsOperands := by
  intro s t hstep changed
  rcases (step_moves hstep).operands with ⟨hkey, hdin, hkeylen, hblklen⟩ | hreset | ⟨idle, a, v, rest, event, operand⟩
  · simp [hkey, hdin, hkeylen, hblklen] at changed
  · exact .inl hreset
  · exact .inr ⟨idle, a, v, rest, event, (isOperand_iff a).1 operand⟩

end Sys2Proof

/-! ### Values -/

namespace Sys2Proof.Machine

/-- A byte written to `CMD` reaches the decoder, or is dropped by it, whatever the core does. -/
theorem hostWrite_cmd (c : Byte) (s : State) : hostWrite 0x030 c s = commandWrite c s := by
  rcases hostWrite_cases 0x030 c s with ⟨hw, _⟩ | ⟨_, hb, he⟩ | ⟨_, _, he⟩ | ⟨_, hn, _, _⟩
  · cases hw.symm.trans ((writable_iff 0x030).2 (.inr (.inl rfl)))
  · rw [he]
    simp [commandWrite, hb]
  · exact he
  · exact absurd rfl hn

/-- The step that writes to `CMD` is the command write (44_host_commands.md R150). -/
theorem step_writeCmd {s : State} {c : Byte} {rest : List Event} (h : s.schedule = .write 0x030 c :: rest) :
    step s = commandWrite c (s.withSchedule rest) :=
  (step_event h).trans (hostWrite_cmd c (s.withSchedule rest))

/-- An entry of the schedule memory reads as its byte there (20_memory.md R42). -/
theorem hostRead_eks {n j : Nat} (hn : n ≤ 128) (hj : j ≤ 3) (s : State) :
    hostRead (BitVec.ofNat 11 (0x400 + 4 * n + j)) s = s.eks.byte s.eksDraw (0x400 + 4 * n + j) := by
  have hmap : addressMap (BitVec.ofNat 11 (0x400 + 4 * n + j)) = .eks ⟨n, by omega⟩ ⟨j, by omega⟩ :=
    addressMap_eks ⟨n, by omega⟩ ⟨j, by omega⟩
  rw [hostRead, hmap]
  rfl

end Sys2Proof.Machine

namespace Sys2Proof

open Sys2Proof.Machine

/-- Settles O11: `toByte` appends the fields, so every clause is one field's place in the byte. -/
theorem statusByteLayout : Obligations.StatusByteLayout := by
  intro t
  refine ⟨?_, ?_, ?_, BitVec.eq_of_getLsbD_eq fun j hj => ?_, ?_, ?_⟩
  case refine_4 =>
    have place : 3 + j - 1 - 1 - 1 = j := by omega
    have above : ¬ 3 + j < 1 ∧ ¬ 3 + j - 1 < 1 ∧ ¬ 3 + j - 1 - 1 < 1 := by omega
    simp only [Status.toByte, BitVec.getLsbD_extractLsb', BitVec.getLsbD_append, above, place, hj]
    simp
  all_goals
    simp only [Status.toByte, BitVec.getLsbD_append]
    simp

/-- Settles O6: the registers by computation, `EKS` because no byte of it is listed after a reset, and the command word
because the core is idle. -/
theorem resetValues : Obligations.ResetValues := by
  have hkey : ∀ i : Fin 32, State.reset.key.get i = 0x00 ∧ State.reset.ks.get i = 0x00 := by decide
  have hblock : ∀ i : Fin 8, State.reset.din.get i = 0x00 ∧ State.reset.dout.get i = 0x00 := by decide
  refine ⟨by decide, rfl, rfl, rfl, rfl, rfl, hkey, hblock, rfl, rfl, rfl, rfl, rfl, rfl, rfl, rfl, rfl,
    fun draw n j hn hj => ?_, fun c i hc => ?_⟩
  · rw [hostRead_eks hn hj]
    rfl
  · exact (step_writeCmd rfl).trans (commandWrite_ok hc)

end Sys2Proof

/-! ### What earlier operations left in the engine's registers

Two runs from idle states that differ only in the registers the host cannot reach (10_state.md R28). While an operation runs
they may still differ in what it does not use (bytes 16 to 31 of the scratch key for K128, the branches during EXPAND, the key
state during DECRYPT), so the relation kept along the runs is `Lockstep`: the visible state agrees, and while busy so does what
the operation uses. -/

namespace Sys2Proof.Machine

/-- The keys agree on the bytes that variant `v` uses. -/
def SameKeyPrefix (v : Variant) (k k' : Vector Byte 32) : Prop := ∀ i : Fin 32, i.val < klen v → k.get i = k'.get i

/-- Two scratch keys loaded from one `KEY` agree on what the variant uses (42_key_schedule.md R115). -/
theorem SameKeyPrefix.loadedKey (v : Variant) (key ks ks' : Vector Byte 32) :
    SameKeyPrefix v (loadedKey v key ks) (loadedKey v key ks') := fun i hi => by
  rw [loadedKey_get, loadedKey_get, if_pos hi, if_pos hi]

theorem SameKeyPrefix.rotate {v : Variant} {k k' : Vector Byte 32} (h : SameKeyPrefix v k k') :
    SameKeyPrefix v (rotateKeyByte v k) (rotateKeyByte v k') := fun i hi => by
  rw [rotateKeyByte_get v k hi, rotateKeyByte_get v k' hi]
  exact h _ (Nat.mod_lt _ (Nat.zero_lt_of_lt hi))

theorem SameKeyPrefix.leadingBytes {v : Variant} {k k' : Vector Byte 32} (h : SameKeyPrefix v k k') :
    leadingBytes k = leadingBytes k' := by
  have h4 := four_le_klen v
  have same : ∀ (j : Nat) (hj : j < 32), j < 4 → k[j] = k'[j] := fun j hj h' => h ⟨j, hj⟩ (Nat.lt_of_lt_of_le h' h4)
  unfold Machine.leadingBytes
  rw [same 0, same 1, same 2, same 3] <;> decide

theorem SameKeyPrefix.setLeadingBytes {v : Variant} {k k' : Vector Byte 32} (h : SameKeyPrefix v k k') (x : Lanes) :
    SameKeyPrefix v (setLeadingBytes k x) (setLeadingBytes k' x) := fun i hi => by
  rw [setLeadingBytes_get, setLeadingBytes_get, h i hi]

/-- A schedule step derives its subkey from the bytes the variant uses. -/
theorem SameKeyPrefix.kStep_sk {v : Variant} {k k' : Vector Byte 32} (h : SameKeyPrefix v k k') (rc : Word) :
    (kStep v k rc).sk = (kStep v k' rc).sk := by
  rw [Machine.kStep_sk, Machine.kStep_sk, h.rotate.leadingBytes]

theorem SameKeyPrefix.kStep_ks {v : Variant} {k k' : Vector Byte 32} (h : SameKeyPrefix v k k') (rc : Word) :
    SameKeyPrefix v (kStep v k rc).ks (kStep v k' rc).ks := by
  rw [Machine.kStep_ks, Machine.kStep_ks, h.kStep_sk rc]
  exact h.rotate.setLeadingBytes _

/-- The state with the registers that the host cannot reach (10_state.md R28) at their reset values. -/
def hidePrivate (s : State) : State :=
  { s with l := State.reset.l, r := State.reset.r, ks := State.reset.ks, rc := State.reset.rc, hr := State.reset.hr,
           op := State.reset.op, var := State.reset.var }

end Sys2Proof.Machine

namespace Sys2Proof

open Sys2Proof.Machine

theorem sameButPrivate_iff {s t : State} : SameButPrivate s t ↔ hidePrivate s = hidePrivate t := by
  constructor
  · rintro ⟨hkey, hdin, hdout, hstatus, hkeylen, hblklen, hschlen, heks, hdraw, hschedule, hresults⟩
    simp only [hidePrivate, hkey, hdin, hdout, hstatus, hkeylen, hblklen, hschlen, heks, hdraw, hschedule, hresults]
  · intro h
    simp only [hidePrivate, State.mk.injEq] at h
    obtain ⟨_, _, _, _, _, _, _, hkey, hdin, hdout, hstatus, hkeylen, hblklen, hschlen, heks, hdraw, hschedule, hresults⟩ := h
    exact ⟨hkey, hdin, hdout, hstatus, hkeylen, hblklen, hschlen, heks, hdraw, hschedule, hresults⟩

/-- An operation whose visible effect depends on the visible state alone keeps the agreement. -/
theorem SameButPrivate.map {s t : State} (h : SameButPrivate s t) (f : State → State)
    (hf : ∀ u : State, hidePrivate (f u) = hidePrivate (f (hidePrivate u))) : SameButPrivate (f s) (f t) := by
  rw [sameButPrivate_iff, hf s, hf t, sameButPrivate_iff.1 h]

/-- A host read shows none of the registers that may differ. -/
theorem SameButPrivate.hostRead {s t : State} (h : SameButPrivate s t) (a : Addr) : hostRead a s = hostRead a t := by
  unfold Machine.hostRead
  cases addressMap a with
  | key i => exact congrArg (·.get i) h.key
  | din i => exact congrArg (·.get i) h.din
  | dout i => exact congrArg (·.get i) h.dout
  | cmd => rfl
  | status => exact congrArg Status.toByte h.status
  | keylen => exact h.keylen
  | blklen => exact h.blklen
  | schlen => exact h.schlen
  | eks n j => simp only [readTarget, h.eks, h.eksDraw]
  | unmapped => rfl

theorem SameButPrivate.hostSeesSame {s t : State} (h : SameButPrivate s t) : HostSeesSame s t := ⟨h.hostRead, h.results⟩

/-- The sequencer agrees, and of the other engine registers those that the running operation uses. -/
structure SameOperation (s t : State) : Prop where
  op : s.op = t.op
  var : s.var = t.var
  hr : s.hr = t.hr
  keyState : usesKey s.op = true → s.rc = t.rc ∧ SameKeyPrefix s.var s.ks t.ks
  branches : usesBlock s.op = true → s.l = t.l ∧ s.r = t.r

/-- The two states are at the same point of one visible run. -/
structure Lockstep (s t : State) : Prop where
  visible : SameButPrivate s t
  operation : s.status.busy = true → SameOperation s t

/-- Whatever next state the first outcome is, the second is one in lockstep with it. -/
def Mirrors (x y : Host.Outcome State Fault Refusal) : Prop :=
  ∀ s' : State, x = .next s' → ∃ t' : State, y = .next t' ∧ Lockstep s' t'

theorem Mirrors.next {s t : State} (h : Lockstep s t) : Mirrors (.next s) (.next t) := by
  intro s' hs
  cases hs
  exact ⟨t, rfl, h⟩

/-- On an idle core what is visible is all. -/
theorem Lockstep.of_idle {s t : State} (idle : Idle s) (h : SameButPrivate s t) : Lockstep s t :=
  ⟨h, fun hb => absurd (idle.symm.trans hb) Bool.false_ne_true⟩

/-! What the host's side of a step keeps -/

theorem Lockstep.withSchedule {s t : State} (h : Lockstep s t) (es : List Event) :
    Lockstep (s.withSchedule es) (t.withSchedule es) where
  visible := h.visible.map (fun u => u.withSchedule es) fun _ => rfl
  operation hb := { h.operation hb with }

theorem Lockstep.pushResult {s t : State} (h : Lockstep s t) (v : Byte) : Lockstep (s.pushResult v) (t.pushResult v) where
  visible := h.visible.map (fun u => u.pushResult v) fun _ => rfl
  operation hb := { h.operation hb with }

theorem Lockstep.dropWrite {s t : State} (h : Lockstep s t) : Lockstep (dropWrite s) (dropWrite t) where
  visible := h.visible.map Machine.dropWrite fun _ => rfl
  operation hb := { h.operation hb with }

theorem Lockstep.resetCore {s t : State} (h : Lockstep s t) : Lockstep (resetCore s) (resetCore t) :=
  .of_idle rfl (h.visible.map Machine.resetCore fun _ => rfl)

theorem Lockstep.refuse {s t : State} (h : Lockstep s t) (idle : Idle s) (e : CommandError) :
    Lockstep (refuse e s) (refuse e t) :=
  .of_idle idle (h.visible.map (Machine.refuse e) fun _ => rfl)

theorem Lockstep.storeByte {s t : State} (h : Lockstep s t) (idle : Idle s) (x : Target) (v : Byte) :
    Lockstep (s.storeByte x v) (t.storeByte x v) :=
  .of_idle ((congrArg Status.busy (State.storeByte_status s x v)).trans idle)
    (h.visible.map (fun u => u.storeByte x v) fun _ => by cases x <;> rfl)

/-- After an accept both cores run the same operation on the same operands: all it uses is loaded, none of it kept. -/
theorem Lockstep.accept {s t : State} (h : SameButPrivate s t) (i : Instr) :
    Lockstep (acceptCommon i.opCode i.variant (loadsOf i s)) (acceptCommon i.opCode i.variant (loadsOf i t)) where
  visible := by
    constructor <;> simp [h.key, h.din, h.dout, h.status, h.keylen, h.blklen, h.schlen, h.eks, h.eksDraw, h.schedule,
      h.results, loadsOf_schlen]
  operation _ :=
    { op := rfl
      var := rfl
      hr := rfl
      keyState := fun hk => by
        have hk : usesKey i.opCode = true := hk
        simp only [acceptCommon_rc, acceptCommon_ks, acceptCommon_var, loadsOf_rc, loadsOf_ks, hk, if_true, h.key,
          true_and]
        exact .loadedKey _ _ _ _
      branches := fun hu => by
        have hu : usesBlock i.opCode = true := hu
        simp only [acceptCommon_l, acceptCommon_r, loadsOf_l, loadsOf_r, hu, if_true, h.din, and_self] }

/-! What the engine's side of a step keeps -/

/-- A schedule step on the key state of one operation: the same subkey and accumulator, and keys that agree where it matters. -/
theorem SameOperation.kStep {s t : State} (same : SameOperation s t) (hk : usesKey s.op = true) :
    (kStep s.var s.ks s.rc).sk = (kStep t.var t.ks t.rc).sk ∧ (kStep s.var s.ks s.rc).rc = (kStep t.var t.ks t.rc).rc ∧
      SameKeyPrefix s.var (kStep s.var s.ks s.rc).ks (kStep t.var t.ks t.rc).ks := by
  obtain ⟨hrc, hks⟩ := same.keyState hk
  rw [← same.var, ← hrc]
  exact ⟨hks.kStep_sk s.rc, rfl, hks.kStep_ks s.rc⟩

theorem Lockstep.expandStep {s t : State} (h : SameButPrivate s t) (same : SameOperation s t) (ho : s.op = .expand) :
    Lockstep (expandStep s) (expandStep t) := by
  obtain ⟨hsk, hrc, hks⟩ := same.kStep (by simp [ho, usesKey])
  have visible : SameButPrivate (Machine.expandStep s) (Machine.expandStep t) := by
    constructor <;> simp [h.key, h.din, h.dout, h.status, h.keylen, h.blklen, h.schlen, h.eks, h.eksDraw, h.schedule,
      h.results, same.hr, hsk]
  exact ⟨visible, fun _ =>
    { op := by simp [same.op]
      var := by simp [same.var]
      hr := by simp [same.hr]
      keyState := fun _ => by simpa using ⟨hrc, hks⟩
      branches := fun hu => by simp [ho, usesBlock] at hu }⟩

/-- A half-round of ENCRYPT shows the host nothing. -/
theorem hidePrivate_encryptHalfRound (s : State) : hidePrivate (encryptHalfRound s) = hidePrivate s := by
  simp [hidePrivate]

/-- A half-round of DECRYPT shows the host nothing. -/
theorem hidePrivate_decryptHalfRound (s : State) : hidePrivate (decryptHalfRound s) = hidePrivate s := by
  simp [hidePrivate]

theorem Lockstep.encryptHalfRound {s t : State} (h : SameButPrivate s t) (same : SameOperation s t) (ho : s.op = .encrypt) :
    Lockstep (encryptHalfRound s) (encryptHalfRound t) := by
  obtain ⟨hsk, hrc, hks⟩ := same.kStep (by simp [ho, usesKey])
  obtain ⟨hl, hr⟩ := same.branches (by simp [ho, usesBlock])
  have visible : SameButPrivate (Machine.encryptHalfRound s) (Machine.encryptHalfRound t) := by
    rw [sameButPrivate_iff, hidePrivate_encryptHalfRound, hidePrivate_encryptHalfRound, sameButPrivate_iff.1 h]
  exact ⟨visible, fun _ =>
    { op := by simp [same.op]
      var := by simp [same.var]
      hr := by simp [same.hr]
      keyState := fun _ => by simpa using ⟨hrc, hks⟩
      branches := fun _ => by simp [same.hr, hsk, hl, hr] }⟩

/-- DECRYPT reads its subkeys from the schedule memory, which agrees; its key state need not. -/
theorem Lockstep.decryptHalfRound {s t : State} (h : SameButPrivate s t) (same : SameOperation s t) (ho : s.op = .decrypt) :
    Lockstep (decryptHalfRound s) (decryptHalfRound t) := by
  obtain ⟨hl, hr⟩ := same.branches (by simp [ho, usesBlock])
  have entry : ∀ n : Nat, s.entry n = t.entry n := fun n => by simp only [State.entry, h.eks, h.eksDraw]
  have visible : SameButPrivate (Machine.decryptHalfRound s) (Machine.decryptHalfRound t) := by
    rw [sameButPrivate_iff, hidePrivate_decryptHalfRound, hidePrivate_decryptHalfRound, sameButPrivate_iff.1 h]
  exact ⟨visible, fun _ =>
    { op := by simp [same.op]
      var := by simp [same.var]
      hr := by simp [same.hr]
      keyState := fun hk => by simp [ho, usesKey] at hk
      branches := fun _ => by simp [same.hr, same.var, entry, hl, hr] }⟩

theorem Lockstep.finish {s t : State} (h : SameButPrivate s t) : Lockstep (finishCommon s) (finishCommon t) :=
  .of_idle rfl (h.map finishCommon fun _ => rfl)

theorem Lockstep.expandFinish {s t : State} (h : SameButPrivate s t) (same : SameOperation s t) :
    Lockstep (expandFinish s) (expandFinish t) := by
  unfold Machine.expandFinish
  rw [same.var]
  exact .finish (h.map (fun u => u.withSchlen _) fun _ => rfl)

/-- The finish of ENCRYPT and of DECRYPT: the branches agree, so `DOUT` does. -/
theorem Lockstep.storeFinish {s t : State} (h : SameButPrivate s t) (same : SameOperation s t)
    (ho : usesBlock s.op = true) : Lockstep (finishCommon (storeBlock s)) (finishCommon (storeBlock t)) := by
  obtain ⟨hl, hr⟩ := same.branches ho
  unfold storeBlock
  rw [hl, hr]
  exact .finish (h.map (fun u => u.withDout _) fun _ => rfl)

/-- The engine's turn takes the same step of the same operation in both. -/
theorem Lockstep.engineStep {s t : State} (h : Lockstep s t) : Mirrors (engineStep s) (engineStep t) := by
  intro s' hs
  have hbusy : t.status.busy = s.status.busy := congrArg Status.busy h.visible.status.symm
  rcases engineStep_cases hs with ⟨idle, rfl⟩ | ⟨busy, hr, hwork⟩ | ⟨busy, hr, hfinish⟩
  · exact ⟨t, engineStep_idle (hbusy.trans idle), h⟩
  · have same := h.operation busy
    rw [engineStep_work (hbusy.trans busy) (same.hr ▸ same.var ▸ hr), workStep, ← same.op]
    rcases hwork with ⟨ho, rfl⟩ | ⟨ho, rfl⟩ | ⟨ho, rfl⟩
    · exact ⟨Machine.expandStep t, by rw [ho], .expandStep h.visible same ho⟩
    · exact ⟨Machine.encryptHalfRound t, by rw [ho], .encryptHalfRound h.visible same ho⟩
    · exact ⟨Machine.decryptHalfRound t, by rw [ho], .decryptHalfRound h.visible same ho⟩
  · have same := h.operation busy
    rw [engineStep_finish (hbusy.trans busy) (same.hr ▸ same.var ▸ hr), finishStep, ← same.op]
    rcases hfinish with ⟨ho, rfl⟩ | ⟨ho, rfl⟩ | ⟨ho, rfl⟩
    · exact ⟨Machine.expandFinish t, by rw [ho], .expandFinish h.visible same⟩
    · exact ⟨encryptFinish t, by rw [ho], .storeFinish h.visible same (by simp [ho, usesBlock])⟩
    · exact ⟨decryptFinish t, by rw [ho], .storeFinish h.visible same (by simp [ho, usesBlock])⟩

/-! The step, and the run -/

/-- The checks look at the length registers, which agree. -/
theorem SameButPrivate.boundaryCheck {s t : State} (h : SameButPrivate s t) (op : OpCode) (v : Variant) :
    boundaryCheck op v s = boundaryCheck op v t := by
  simp only [Machine.boundaryCheck, h.keylen, h.blklen, h.schlen]

/-- A byte written to `CMD` is, on an idle core, refused or accepted by both alike. -/
theorem Lockstep.commandWrite {s t : State} (h : Lockstep s t) (idle : Idle s) (c : Byte) :
    Mirrors (commandWrite c s) (commandWrite c t) := by
  have idle' : t.status.busy = false := h.visible.status ▸ idle
  cases hc : decode c with
  | error x =>
    rw [commandWrite_illegal idle hc, commandWrite_illegal idle' hc]
    exact .next (h.refuse idle _)
  | ok i =>
    rw [commandWrite_ok hc, commandWrite_ok hc, exec_eq, exec_eq]
    cases hk : Machine.boundaryCheck i.opCode i.variant s with
    | some e =>
      rw [issue_refused idle hk, issue_refused idle' (h.visible.boundaryCheck _ _ ▸ hk)]
      exact .next (h.refuse idle e)
    | none =>
      rw [issue_accepted idle hk, issue_accepted idle' (h.visible.boundaryCheck _ _ ▸ hk)]
      exact .next (.accept h.visible i)

theorem Lockstep.hostWrite {s t : State} (h : Lockstep s t) (a : Addr) (v : Byte) :
    Mirrors (hostWrite a v s) (hostWrite a v t) := by
  unfold Machine.hostWrite
  rw [← h.visible.status]
  split_ifs with unbacked busy cmd
  · exact .next h
  · exact .next h.dropWrite
  · exact h.commandWrite (by simpa using busy) v
  · exact .next (h.storeByte (by simpa using busy) _ v)

theorem Lockstep.performEvent {s t : State} (h : Lockstep s t) (e : Event) :
    Mirrors (performEvent e s) (performEvent e t) := by
  cases e with
  | read a =>
    rw [performEvent_read, performEvent_read, ← h.visible.hostRead a]
    exact .next (h.pushResult _)
  | write a v => exact h.hostWrite a v
  | engine => exact h.engineStep
  | run =>
    cases hb : s.status.busy with
    | true =>
      rw [performEvent_run_busy hb, performEvent_run_busy (h.visible.status ▸ hb), ← h.visible.schedule]
      exact (h.withSchedule _).engineStep
    | false =>
      rw [performEvent_run_idle hb, performEvent_run_idle (h.visible.status ▸ hb)]
      exact .next h
  | reset => exact .next h.resetCore

theorem Lockstep.step {s t : State} (h : Lockstep s t) : Mirrors (step s) (step t) := by
  cases hs : s.schedule with
  | nil =>
    rw [step_empty hs, step_empty (h.visible.schedule ▸ hs)]
    exact h.engineStep
  | cons e rest =>
    rw [step_event hs, step_event (h.visible.schedule ▸ hs)]
    exact (h.withSchedule rest).performEvent e

/-- Runs of any length stay in lockstep. -/
theorem Lockstep.runSteps {k : Nat} {s t : State} (h : Lockstep s t) : Mirrors (runSteps k s) (runSteps k t) := by
  induction k generalizing s t with
  | zero => exact .next h
  | succ k ih =>
    intro s' hrun
    obtain ⟨s₁, hstep, hrest⟩ := runSteps_succ_next hrun
    obtain ⟨t₁, hstep', h₁⟩ := h.step s₁ hstep
    rw [runSteps_succ hstep']
    exact ih h₁ s' hrest

/-- Settles O55: idle states that agree in all the host can reach are in lockstep, and states in lockstep look alike. -/
theorem oldPrivateStateUnobservable : Obligations.OldPrivateStateUnobservable := by
  intro k s t s' idle h hrun
  obtain ⟨t', hrun', h'⟩ := (Lockstep.of_idle idle h).runSteps s' hrun
  exact ⟨t', hrun', h'.visible.hostSeesSame⟩

end Sys2Proof

/-! ### The address map, and the writes that store nothing

What the proofs of the 20_memory.md family share: the map in both directions, and a host write that the map does not back
(R49) or that meets a busy core (R50). -/

namespace Sys2Proof.Machine

/-- The map undoes `Target.address` (20_memory.md R41, R42). -/
theorem addressMap_of_address {t : Target} {a : Addr} (h : t.address = some a) : addressMap a = t := by
  cases t with
  | key i =>
    cases h
    exact addressMap_key i
  | din i =>
    cases h
    exact addressMap_din i
  | dout i =>
    cases h
    exact addressMap_dout i
  | eks n j =>
    cases h
    exact addressMap_eks n j
  | cmd | status | keylen | blklen | schlen =>
    cases h
    decide
  | unmapped => cases h

/-- The numeral of an address is that address. -/
theorem ofNat_eq_of_toNat {n : Nat} {a : Addr} (h : n = a.toNat) : BitVec.ofNat 11 n = a := by
  rw [h, BitVec.ofNat_toNat, BitVec.setWidth_eq]

/-- Every mapped address is the address of what it names (20_memory.md R41, R42). -/
theorem address_addressMap {a : Addr} (h : addressMap a ≠ .unmapped) : (addressMap a).address = some a := by
  unfold addressMap at h ⊢
  split_ifs at h ⊢ with hkey hdin hdout hcmd hstatus hkeylen hblklen hschlen heks
  · exact congrArg some (ofNat_eq_of_toNat rfl)
  · exact congrArg some (ofNat_eq_of_toNat (by simp only; omega))
  · exact congrArg some (ofNat_eq_of_toNat (by simp only; omega))
  · exact congrArg some (ofNat_eq_of_toNat hcmd.symm)
  · exact congrArg some (ofNat_eq_of_toNat hstatus.symm)
  · exact congrArg some (ofNat_eq_of_toNat hkeylen.symm)
  · exact congrArg some (ofNat_eq_of_toNat hblklen.symm)
  · exact congrArg some (ofNat_eq_of_toNat hschlen.symm)
  · exact congrArg some (ofNat_eq_of_toNat (by simp only [eksAddress, eksBase]; omega))
  · exact absurd rfl h

/-- The unmapped addresses, by range (20_memory.md R41). -/
theorem addressMap_eq_unmapped (a : Addr) :
    addressMap a = .unmapped ↔ (0x035 ≤ a.toNat ∧ a.toNat ≤ 0x3FF) ∨ 0x604 ≤ a.toNat := by
  unfold addressMap
  split_ifs <;> simp <;> omega

/-- The addresses a host write stores nothing at: `DOUT`, `STATUS` and what is not mapped (20_memory.md R49). -/
theorem not_writable_iff (a : Addr) : (addressMap a).writable = false ↔
    ((0x028 ≤ a.toNat ∧ a.toNat ≤ 0x02F) ∨ a = 0x031 ∨ (0x035 ≤ a.toNat ∧ a.toNat ≤ 0x3FF) ∨ 0x604 ≤ a.toNat) := by
  have cmd : a = 0x030 ↔ a.toNat = 0x030 := by rw [← BitVec.toNat_inj]; rfl
  have status : a = 0x031 ↔ a.toNat = 0x031 := by rw [← BitVec.toNat_inj]; rfl
  rw [← Bool.not_eq_true, writable_iff, cmd, status]
  omega

/-- A write the map does not back changes nothing, busy or idle (20_memory.md R49). -/
theorem hostWrite_unbacked {a : Addr} (h : (addressMap a).writable = false) (v : Byte) (s : State) :
    hostWrite a v s = .next s := if_pos h

/-- A write to a writable location of a busy core is dropped (20_memory.md R50). -/
theorem hostWrite_busy {a : Addr} (h : (addressMap a).writable = true) (v : Byte) {s : State} (busy : s.status.busy = true) :
    hostWrite a v s = .next (dropWrite s) := by
  simp [hostWrite, h, busy]

/-- `CMD` and what is not mapped read as `0x00` (20_memory.md R49). -/
theorem hostRead_unbacked {a : Addr} (h : addressMap a = .cmd ∨ addressMap a = .unmapped) (s : State) :
    hostRead a s = 0x00 := by
  rcases h with h | h <;> rw [hostRead, h] <;> rfl

end Sys2Proof.Machine

namespace Sys2Proof

open Sys2Proof.Machine

/-- Settles O12: the map and `Target.address` undo each other, and the ranges of the map leave the two gaps. -/
theorem addressMapRoundTrips : Obligations.AddressMapRoundTrips :=
  ⟨fun _ _ => addressMap_of_address, fun _ => address_addressMap, addressMap_eq_unmapped⟩

/-- Settles O13: every clause is an entry and a byte of it in the map. -/
theorem eksBytesAddressed : Obligations.EksBytesAddressed :=
  ⟨addressMap_eks, addressMap_eks 0 0, addressMap_eks 0 3, addressMap_eks 1 0, addressMap_eks 1 3, addressMap_eks 64 0,
    addressMap_eks 64 3, addressMap_eks 128 0, addressMap_eks 128 3⟩

/-- Settles O14: the addresses named are those that are not writable, and those that name `CMD` or nothing. -/
theorem unbackedAccessInert : Obligations.UnbackedAccessInert := by
  refine ⟨fun s a v rest hs ha => ?_, fun s a ha => ?_⟩
  · exact (step_event hs).trans (hostWrite_unbacked ((not_writable_iff a).2 ha) v (s.withSchedule rest))
  · exact hostRead_unbacked (ha.imp (addressMap_eq_cmd a).2 (addressMap_eq_unmapped a).2) s

/-- Settles O15: the addresses named are the writable ones, and a busy core drops a write to them. -/
theorem busyWriteDropped : Obligations.BusyWriteDropped := by
  intro s a v rest hs busy ha
  exact (step_event hs).trans (hostWrite_busy (s := s.withSchedule rest) ((writable_iff a).2 ha) v busy)

/-- Settles O26: every command word is one issue, which a busy core drops. -/
theorem busyCommandDropped : Obligations.BusyCommandDropped := by
  intro i s busy
  rw [exec_eq, issue_busy busy]
  rfl

end Sys2Proof

/-! ### The frame of an engine step -/

namespace Sys2Proof.Machine

/-- A schedule step leaves the bytes above the variant's key length alone (42_key_schedule.md R110, R112). -/
theorem kStep_ks_get_above {v : Variant} {i : Fin 32} (h : klen v ≤ i.val) (ks : Vector Byte 32) (rc : Word) :
    (kStep v ks rc).ks.get i = ks.get i := by
  have four : 4 ≤ i.val := Nat.le_trans (four_le_klen v) h
  rw [kStep_ks, setLeadingBytes_get, if_neg (by omega), if_neg (by omega), if_neg (by omega), if_neg (by omega),
    rotateKeyByte_get_above v ks h]

section
variable {s t : State} (h : engineStep s = .next t)
include h

/-- What names the running operation, its error flags and the model's own fields are no engine step's to change. -/
theorem engineStep_latched : t.op = s.op ∧ t.var = s.var ∧ t.status.err = s.status.err ∧
    t.status.errcode = s.status.errcode ∧ t.eksDraw = s.eksDraw ∧ t.schedule = s.schedule ∧ t.results = s.results := by
  rcases engineStep_cases h with ⟨_, rfl⟩ | ⟨_, _, ⟨_, rfl⟩ | ⟨_, rfl⟩ | ⟨_, rfl⟩⟩ | ⟨_, _, ⟨_, rfl⟩ | ⟨_, rfl⟩ | ⟨_, rfl⟩⟩ <;>
    simp

/-- The schedule memory stays, or EXPAND writes one of the entries 1 to 128 (42_key_schedule.md R116). -/
theorem engineStep_eks : t.eks = s.eks ∨
    (s.op = .expand ∧ ∃ (n : Nat) (x : Lanes), 1 ≤ n ∧ n ≤ 128 ∧ t.eks = s.eks.writeEntry n x) := by
  rcases engineStep_cases h with ⟨_, rfl⟩ | ⟨_, hr, ⟨ho, rfl⟩ | ⟨_, rfl⟩ | ⟨_, rfl⟩⟩ | ⟨_, _, ⟨_, rfl⟩ | ⟨_, rfl⟩ | ⟨_, rfl⟩⟩
  · exact .inl rfl
  · exact .inr ⟨ho, s.hr.toNat + 1, _, Nat.succ_pos _, Nat.le_trans hr (halfRounds_le s.var), expandStep_eks s⟩
  all_goals exact .inl (by simp)

/-- The key state stays, or EXPAND or ENCRYPT takes a schedule step (42_key_schedule.md R116, 43_feistel_engine.md R132). -/
theorem engineStep_keyState : (t.ks = s.ks ∧ t.rc = s.rc) ∨
    (s.op ≠ .decrypt ∧ t.ks = (kStep s.var s.ks s.rc).ks ∧ t.rc = (kStep s.var s.ks s.rc).rc) := by
  rcases engineStep_cases h with ⟨_, rfl⟩ | ⟨_, _, ⟨ho, rfl⟩ | ⟨ho, rfl⟩ | ⟨_, rfl⟩⟩ |
    ⟨_, _, ⟨_, rfl⟩ | ⟨_, rfl⟩ | ⟨_, rfl⟩⟩
  · exact .inl ⟨rfl, rfl⟩
  · exact .inr (by simp [ho])
  · exact .inr (by simp [ho])
  all_goals exact .inl (by simp)

/-- `SCHLEN` is EXPAND's alone to write (42_key_schedule.md R117). -/
theorem engineStep_schlen (ho : s.op ≠ .expand) : t.schlen = s.schlen := by
  rcases engineStep_cases h with ⟨_, rfl⟩ | ⟨_, _, ⟨_, rfl⟩ | ⟨_, rfl⟩ | ⟨_, rfl⟩⟩ |
    ⟨_, _, ⟨hx, rfl⟩ | ⟨_, rfl⟩ | ⟨_, rfl⟩⟩
  case inr.inr.inl => exact absurd hx ho
  all_goals simp

/-- EXPAND has nothing to do with the block (42_key_schedule.md R116, R117). -/
theorem engineStep_expand_block (ho : s.op = .expand) : t.l = s.l ∧ t.r = s.r ∧ t.dout = s.dout := by
  rcases engineStep_cases h with ⟨_, rfl⟩ | ⟨_, _, ⟨_, rfl⟩ | ⟨hx, _⟩ | ⟨hx, _⟩⟩ |
    ⟨_, _, ⟨_, rfl⟩ | ⟨hx, _⟩ | ⟨hx, _⟩⟩
  case inl | inr.inl.inl | inr.inr.inl => simp
  all_goals cases ho.symm.trans hx

/-- No byte of the schedule memory outside the entries 1 to 128 changes (20_memory.md R52). -/
theorem engineStep_byte_outside {a : Nat} (ha : a < 0x404 ∨ 0x604 ≤ a) :
    t.eks.byte s.eksDraw a = s.eks.byte s.eksDraw a := by
  rcases engineStep_eks h with he | ⟨_, n, x, one_le, le_128, he⟩
  · rw [he]
  · rw [he, Memory.byte_writeEntry_other]
    unfold eksAddress eksBase
    omega

/-- Bytes 16 to 31 of the scratch key are not a K128 operation's (10_state.md R12). -/
theorem engineStep_ks_above {i : Fin 32} (hi : klen s.var ≤ i.val) : t.ks.get i = s.ks.get i := by
  rcases engineStep_keyState h with ⟨hks, _⟩ | ⟨_, hks, _⟩
  · rw [hks]
  · rw [hks, kStep_ks_get_above hi]

end

end Sys2Proof.Machine

namespace Sys2Proof

open Sys2Proof.Machine

/-- Settles O43: each clause is what an engine step can do to the register it names. -/
theorem engineFrame : Obligations.EngineFrame := by
  intro s t h
  obtain ⟨hkey, hdin, hkeylen, hblklen, hovr⟩ := engineStep_operands h
  obtain ⟨hop, hvar, herr, herrcode, hdraw, hschedule, hresults⟩ := engineStep_latched h
  refine ⟨hkey, hdin, hkeylen, hblklen, hop, hvar, hovr, herr, herrcode, hdraw, hschedule, hresults,
    fun a ha => ?_, fun ho => ⟨fun a => ?_, engineStep_schlen h ho⟩, engineStep_expand_block h, fun ho => ?_,
    fun hv i hi => engineStep_ks_above h (by rw [hv]; exact hi)⟩
  · rw [hdraw, engineStep_byte_outside h ha]
  · rcases engineStep_eks h with he | ⟨hx, _⟩
    · rw [he, hdraw]
    · exact absurd hx ho
  · rcases engineStep_keyState h with same | ⟨hn, _⟩
    · exact same
    · exact absurd ho hn

end Sys2Proof

/-! ### The host beside a running operation

A run with host accesses against the run of the engine alone. What the host leaves on a busy core is `OVR`, the events still to
come and the bytes it read; `withHostTrace` puts any such trace on a state, the engine's step does not look at it, and an
access of the host only changes the trace. -/

namespace Sys2Proof.Machine

/-- The state with another `OVR`, other events to come and other results: all that host accesses change on a busy core. -/
def State.withHostTrace (s : State) (ovr : Bool) (es : List Event) (rs : List Byte) : State :=
  { s with status := { s.status with ovr := ovr }, schedule := es, results := rs }

section
variable (s : State) (o : Bool) (es : List Event) (rs : List Byte)

theorem State.withHostTrace_op : (s.withHostTrace o es rs).op = s.op := rfl

/-- The engine does not look at the host's trace. -/
theorem engineStep_withHostTrace {t : State} (h : engineStep s = .next t) :
    engineStep (s.withHostTrace o es rs) = .next (t.withHostTrace o es rs) := by
  rcases engineStep_cases h with ⟨idle, rfl⟩ | ⟨busy, hr, hwork⟩ | ⟨busy, hr, hfinish⟩
  · exact engineStep_idle idle
  · rw [engineStep_work (s := s.withHostTrace o es rs) busy hr, workStep, State.withHostTrace_op]
    rcases hwork with ⟨ho, rfl⟩ | ⟨ho, rfl⟩ | ⟨ho, rfl⟩ <;> rw [ho] <;> rfl
  · rw [engineStep_finish (s := s.withHostTrace o es rs) busy hr, finishStep, State.withHostTrace_op]
    rcases hfinish with ⟨ho, rfl⟩ | ⟨ho, rfl⟩ | ⟨ho, rfl⟩ <;> rw [ho] <;> rfl

/-- The step takes its event off the trace. -/
theorem step_withHostTrace (e : Event) :
    step (s.withHostTrace o (e :: es) rs) = performEvent e (s.withHostTrace o es rs) := rfl

/-- A step whose event is the engine's is the engine's step beneath the trace. -/
theorem step_engine_withHostTrace {t : State} (h : engineStep s = .next t) :
    step (s.withHostTrace o (.engine :: es) rs) = .next (t.withHostTrace o es rs) :=
  (step_withHostTrace s o es rs .engine).trans (engineStep_withHostTrace s o es rs h)

/-- A host read adds its byte to the trace. -/
theorem step_read_withHostTrace (a : Addr) : ∃ v : Byte,
    step (s.withHostTrace o (.read a :: es) rs) = .next (s.withHostTrace o es (rs ++ [v])) :=
  ⟨_, step_withHostTrace s o es rs (.read a)⟩

/-- A host write to a busy core sets `OVR` or does nothing (20_memory.md R49, R50). -/
theorem step_write_withHostTrace (busy : s.status.busy = true) (a : Addr) (v : Byte) : ∃ o' : Bool,
    step (s.withHostTrace o (.write a v :: es) rs) = .next (s.withHostTrace o' es rs) := by
  rw [step_withHostTrace]
  cases hw : (addressMap a).writable with
  | false => exact ⟨o, hostWrite_unbacked hw v (s.withHostTrace o es rs)⟩
  | true => exact ⟨true, hostWrite_busy (s := s.withHostTrace o es rs) hw v busy⟩

end

/-- A schedule step or half-round counts `HR` on and leaves the core busy (44_host_commands.md R153). -/
theorem engineStep_counts {s t : State} (h : engineStep s = .next t) (busy : s.status.busy = true)
    (hr : s.hr.toNat < halfRounds s.var) : t.status.busy = true ∧ t.hr.toNat = s.hr.toNat + 1 := by
  rcases engineStep_cases h with ⟨idle, _⟩ | ⟨_, _, ⟨_, rfl⟩ | ⟨_, rfl⟩ | ⟨_, rfl⟩⟩ | ⟨_, done, _⟩
  · exact absurd (idle.symm.trans busy) Bool.false_ne_true
  · exact ⟨by simpa using busy, by rw [expandStep_hr, toNat_nextHr hr]⟩
  · exact ⟨by simpa using busy, by rw [encryptHalfRound_hr, toNat_nextHr hr]⟩
  · exact ⟨by simpa using busy, by rw [decryptHalfRound_hr, toNat_nextHr hr]⟩
  · exact absurd done (Nat.ne_of_lt hr)

end Sys2Proof.Machine

namespace Sys2Proof

open Sys2Proof.Machine

/-- In a state of the invariant the engine's turn never stops the machine (44_host_commands.md R158). -/
theorem Invariant.engineStep_next {s : State} (h : Invariant s) : ∃ t : State, Machine.engineStep s = .next t := by
  cases hb : s.status.busy with
  | false => exact ⟨s, engineStep_idle hb⟩
  | true =>
    obtain ⟨hop, hle⟩ := h.sequencer hb
    rcases Nat.lt_or_eq_of_le hle with hr | hr
    · rw [engineStep_work hb hr, workStep]
      cases ho : s.op with
      | reserved => exact absurd ho hop
      | expand | encrypt | decrypt => exact ⟨_, rfl⟩
    · rw [engineStep_finish hb hr, finishStep]
      cases ho : s.op with
      | reserved => exact absurd ho hop
      | expand | encrypt | decrypt => exact ⟨_, rfl⟩

theorem engineTurns_cons_engine (es : List Event) : engineTurns (.engine :: es) = engineTurns es + 1 := by
  simp [engineTurns]

theorem engineTurns_cons_other {e : Event} (h : e ≠ .engine) (es : List Event) : engineTurns (e :: es) = engineTurns es := by
  simp [engineTurns, h]

/-- Host accesses and engine steps, then one engine step more, on a busy core: the run ends beneath some trace of the host in
the state to which the engine's steps alone lead. -/
theorem runSteps_withHostTrace {es : List Event} {s : State} (inv : Invariant s) (busy : s.status.busy = true)
    (alone : s.schedule = []) (atomic : es.all Event.isAtomicAccess = true)
    (unfinished : s.hr.toNat + engineTurns es ≤ halfRounds s.var) (o : Bool) (rs : List Byte) :
    ∃ (u : State) (o' : Bool) (rs' : List Byte), runSteps (engineTurns es + 1) s = .next u ∧ u.schedule = [] ∧
      runSteps (es.length + 1) (s.withHostTrace o (es ++ [.engine]) rs) = .next (u.withHostTrace o' [] rs') := by
  induction es generalizing s o rs with
  | nil =>
    obtain ⟨u, hu⟩ := inv.engineStep_next
    obtain ⟨_, _, _, _, _, hschedule, _⟩ := engineStep_latched hu
    exact ⟨u, o, rs, runSteps_succ ((step_empty alone).trans hu), hschedule.trans alone,
      runSteps_succ (step_engine_withHostTrace s o [] rs hu)⟩
  | cons e es ih =>
    obtain ⟨he, hes⟩ : e.isAtomicAccess = true ∧ es.all Event.isAtomicAccess = true := by simpa using atomic
    cases e with
    | read a =>
      rw [engineTurns_cons_other (by simp)] at unfinished ⊢
      obtain ⟨v, hv⟩ := step_read_withHostTrace s o (es ++ [.engine]) rs a
      obtain ⟨u, o', rs', hu, hschedule, hrun⟩ := ih inv busy alone hes unfinished o (rs ++ [v])
      exact ⟨u, o', rs', hu, hschedule, (runSteps_succ hv).trans hrun⟩
    | write a v =>
      rw [engineTurns_cons_other (by simp)] at unfinished ⊢
      obtain ⟨o₁, hw⟩ := step_write_withHostTrace s o (es ++ [.engine]) rs busy a v
      obtain ⟨u, o', rs', hu, hschedule, hrun⟩ := ih inv busy alone hes unfinished o₁ rs
      exact ⟨u, o', rs', hu, hschedule, (runSteps_succ hw).trans hrun⟩
    | engine =>
      rw [engineTurns_cons_engine] at unfinished ⊢
      obtain ⟨t, ht⟩ := inv.engineStep_next
      obtain ⟨_, hvar, _, _, _, hschedule, _⟩ := engineStep_latched ht
      obtain ⟨busy', hr⟩ := engineStep_counts ht busy (by omega)
      obtain ⟨u, o', rs', hu, hdone, hrun⟩ :=
        ih (inv.engineStep ht) busy' (hschedule.trans alone) hes (by rw [hvar, hr]; omega) o rs
      have haccess := step_engine_withHostTrace s o (es ++ [.engine]) rs ht
      exact ⟨u, o', rs', (runSteps_succ ((step_empty alone).trans ht)).trans hu, hdone, (runSteps_succ haccess).trans hrun⟩
    | run | reset => cases he

/-- Settles O53: the schedule is a trace of the host on the state with no event to come, and so is what the run leaves of it. -/
theorem hostCannotDisturbOperation : Obligations.HostCannotDisturbOperation := by
  intro s es inv busy atomic unfinished
  obtain ⟨u, o, rs, hu, hschedule, hrun⟩ :=
    runSteps_withHostTrace (inv.withSchedule []) busy rfl atomic unfinished s.status.ovr s.results
  refine ⟨u.withHostTrace o [] rs, u, hrun, hu, ?_⟩
  simp only [State.withHostTrace, hschedule]

end Sys2Proof

/-! ### Command words and host scripts

What the proofs of the 30_encoding.md family share: the fields of `CMD8` and the values they name, in both directions, and the
events of a run of host writes. -/

namespace Sys2Proof

/-- The fields of a byte are all of its bits (30_encoding.md R70). -/
theorem wordOfFields_commandFields (c : Byte) : wordOfFields (commandFields c) = c := by
  have upper : c.extractLsb' 3 5 ++ c.extractLsb' 2 1 = c.extractLsb' 2 6 :=
    BitVec.extractLsb'_append_extractLsb'_eq_extractLsb' rfl
  calc wordOfFields (commandFields c)
    _ = c.extractLsb' 3 5 ++ c.extractLsb' 2 1 ++ c.extractLsb' 0 2 := rfl
    _ = c.extractLsb' 2 6 ++ c.extractLsb' 0 2 := by rw [upper]
    _ = c.extractLsb' 0 8 := BitVec.extractLsb'_append_extractLsb'_eq_extractLsb' rfl
    _ = c := BitVec.extractLsb'_eq_self

theorem fieldOfOpCode_opCodeOfField : ∀ op : BitVec 2, fieldOfOpCode (opCodeOfField op) = op := by decide

theorem fieldOfVariant_variantOfField : ∀ var : BitVec 1, fieldOfVariant (variantOfField var) = var := by decide

/-- What a byte's fields are when it decodes to a word (30_encoding.md R71, R73). -/
theorem fields_of_decode {c : Byte} {i : Instr} (h : decode c = .ok i) : (commandFields c).rsv = 0 ∧
    opCodeOfField (commandFields c).op = i.opCode ∧ variantOfField (commandFields c).var = i.variant := by
  simp only [decode] at h
  split_ifs at h with hrsv
  refine ⟨hrsv, ?_⟩
  split at h <;> cases h <;> exact ⟨‹_›, ‹_›⟩

/-- The decoder undoes the encoder, row by row of the table (30_encoding.md R71). -/
theorem decode_encode (i : Instr) : decode (encode i) = .ok i := by
  cases i <;> rfl

/-- The encoder undoes the decoder: it lays the byte's own fields out again. -/
theorem encode_of_decode {c : Byte} {i : Instr} (h : decode c = .ok i) : encode i = c := by
  obtain ⟨hrsv, hop, hvar⟩ := fields_of_decode h
  calc encode i
    _ = wordOfFields (commandFields c) := by
      rw [encode, ← hop, ← hvar, ← hrsv, fieldOfOpCode_opCodeOfField, fieldOfVariant_variantOfField]
    _ = c := wordOfFields_commandFields c

/-- Settles O2: each of the decoder and the encoder undoes the other. -/
theorem decodeEncodeAgree : Obligations.DecodeEncodeAgree :=
  fun i _ => ⟨fun h => (encode_of_decode h).symm, fun h => h ▸ decode_encode i⟩

open Sys2Proof.Machine

/-- Settles O1: each byte of the table is the encoding of its row, which the decoder undoes. -/
theorem tableBytesDecode : Obligations.TableBytesDecode :=
  ⟨decode_encode .expandK128, decode_encode .encryptK128, decode_encode .decryptK128,
    decode_encode .expandK256, decode_encode .encryptK256, decode_encode .decryptK256,
    rfl, ⟨rfl, rfl, rfl⟩, ⟨rfl, rfl, rfl⟩⟩

end Sys2Proof

namespace Sys2Proof.Machine

/-- One write per byte, and the bytes' addresses rise by one from the first (20_memory.md R46). -/
theorem getElem?_writesFrom (a : Nat) (bytes : List Byte) (j : Nat) :
    (writesFrom a bytes)[j]? = bytes[j]?.map (.write (BitVec.ofNat 11 (a + j))) := by
  induction bytes generalizing a j with
  | nil => rfl
  | cons b bs ih =>
    cases j with
    | zero => rfl
    | succ j => simp [writesFrom, ih, Nat.add_right_comm, Nat.add_assoc]

@[simp] theorem length_writesFrom (a : Nat) (bytes : List Byte) : (writesFrom a bytes).length = bytes.length := by
  induction bytes generalizing a with
  | nil => rfl
  | cons b bs ih => simp [writesFrom, ih]

/-- A load of the host script: its bytes in order, then one event more (30_encoding.md R76). -/
theorem writesFrom_concat (a : Nat) (bytes : List Byte) (e : Event) :
    (writesFrom a bytes ++ [e]).length = bytes.length + 1 ∧
    (∀ (j : Nat) (h : j < bytes.length),
      (writesFrom a bytes ++ [e])[j]? = some (.write (BitVec.ofNat 11 (a + j)) bytes[j])) ∧
    (writesFrom a bytes ++ [e])[bytes.length]? = some e := by
  refine ⟨by simp, fun j h => ?_, by simp⟩
  rw [List.getElem?_append_left (by simpa using h), getElem?_writesFrom, List.getElem?_eq_getElem h, Option.map_some]

end Sys2Proof.Machine

namespace Sys2Proof

open Sys2Proof.Machine

/-- Settles O59: the two loads are writes at rising addresses and the length register's, and every other line is written out. -/
theorem scriptLinesExpand : Obligations.ScriptLinesExpand := by
  refine ⟨fun _ => rfl, fun bytes _ => ?loadKey, fun bytes wf => ?loadBlk, rfl, rfl, fun _ _ _ _ _ _ => ⟨rfl, rfl⟩⟩
  case loadKey => simpa only [scriptEvents, Nat.zero_add] using writesFrom_concat 0x000 bytes (.write 0x032 (BitVec.ofNat 8 bytes.length))
  case loadBlk =>
    have eight : bytes.length = 8 := of_decide_eq_true wf
    obtain ⟨length, byte, last⟩ := writesFrom_concat 0x020 bytes (.write 0x033 0x08)
    rw [eight] at length last
    exact ⟨length, byte, last⟩

end Sys2Proof

/-! ### Beta, bit position by bit position

What the proofs of the 40_nonlinear_beta.md family share: four lanes are eight nibbles, one for each bit position, and Beta is
the S-box on each of them (R91). -/

namespace Sys2Proof.Machine

/-- The nibble of four bits, the first the least significant (40_nonlinear_beta.md R91). -/
def nibbleOfBits (b0 b1 b2 b3 : Bool) : BitVec 4 :=
  BitVec.ofBool b3 ++ BitVec.ofBool b2 ++ BitVec.ofBool b1 ++ BitVec.ofBool b0

theorem nibbleAt_eq (a : Lanes) (p : Nat) :
    nibbleAt a p = nibbleOfBits (a.l0.getLsbD p) (a.l1.getLsbD p) (a.l2.getLsbD p) (a.l3.getLsbD p) := rfl

theorem nibbleOfBits_inj : ∀ {b0 b1 b2 b3 c0 c1 c2 c3 : Bool},
    nibbleOfBits b0 b1 b2 b3 = nibbleOfBits c0 c1 c2 c3 → b0 = c0 ∧ b1 = c1 ∧ b2 = c2 ∧ b3 = c3 := by decide

theorem nibbleOfBits_getLsbD : ∀ y : BitVec 4,
    nibbleOfBits (y.getLsbD 0) (y.getLsbD 1) (y.getLsbD 2) (y.getLsbD 3) = y := by decide

/-- Beta acts on each bit position alone, as the S-box: the formulas of R90 on the sixteen values of a position's four bits
spell the table (40_nonlinear_beta.md R91, R92). -/
theorem nibbleAt_beta (a : Lanes) {p : Nat} (hp : p < 8) : nibbleAt (beta a) p = sbox (nibbleAt a p) := by
  simp only [nibbleAt_eq, beta, BitVec.getLsbD_not, BitVec.getLsbD_xor, BitVec.getLsbD_and, hp, decide_true, Bool.true_and]
  generalize a.l0.getLsbD p = b0, a.l1.getLsbD p = b1, a.l2.getLsbD p = b2, a.l3.getLsbD p = b3
  revert b0 b1 b2 b3
  decide

/-- Four-lane values with the same nibble at each of the eight bit positions are the same. -/
theorem Lanes.ext_nibbleAt {a b : Lanes} (h : ∀ p < 8, nibbleAt a p = nibbleAt b p) : a = b := by
  cases a
  cases b
  congr 1
  all_goals
    refine BitVec.eq_of_getLsbD_eq fun p hp => ?_
    obtain ⟨_, _, _, _⟩ := nibbleOfBits_inj (h p hp)
    assumption

/-- A byte built from the top bit down, one bit appended at a time. -/
theorem laneOfNibbles_eq_concat (y : Nat → BitVec 4) (j : Nat) : laneOfNibbles y j =
    (((((((BitVec.ofBool ((y 7).getLsbD j)).concat ((y 6).getLsbD j)).concat ((y 5).getLsbD j)).concat
      ((y 4).getLsbD j)).concat ((y 3).getLsbD j)).concat ((y 2).getLsbD j)).concat ((y 1).getLsbD j)).concat
      ((y 0).getLsbD j) := rfl

theorem getLsbD_laneOfNibbles (y : Nat → BitVec 4) (j : Nat) {p : Nat} (hp : p < 8) :
    (laneOfNibbles y j).getLsbD p = (y p).getLsbD j := by
  rw [laneOfNibbles_eq_concat]
  interval_cases p <;> simp [BitVec.getLsbD_concat, -BitVec.getLsbD_eq_getElem]

/-- The four lanes whose nibble at bit position `p` is the `p`-th of eight nibbles. -/
def lanesOfNibbles (y : Nat → BitVec 4) : Lanes :=
  { l0 := laneOfNibbles y 0, l1 := laneOfNibbles y 1, l2 := laneOfNibbles y 2, l3 := laneOfNibbles y 3 }

theorem betaByTable_eq (a : Lanes) : betaByTable a = lanesOfNibbles fun p => sbox (nibbleAt a p) := rfl

theorem nibbleAt_lanesOfNibbles (y : Nat → BitVec 4) {p : Nat} (hp : p < 8) : nibbleAt (lanesOfNibbles y) p = y p := by
  rw [nibbleAt_eq]
  simp only [lanesOfNibbles, getLsbD_laneOfNibbles y _ hp, nibbleOfBits_getLsbD]

/-- The two realisations of Beta agree (40_nonlinear_beta.md R92): they have the same nibbles. -/
theorem betaByTable_eq_beta (a : Lanes) : betaByTable a = beta a :=
  Lanes.ext_nibbleAt fun p hp => by rw [betaByTable_eq, nibbleAt_lanesOfNibbles _ hp, nibbleAt_beta a hp]

/-- No value stands twice in the table (40_nonlinear_beta.md R93). -/
theorem sbox_injective : Function.Injective sbox := by
  unfold Function.Injective
  decide

theorem sbox_bijective : Function.Bijective sbox := Finite.injective_iff_bijective.1 sbox_injective

/-- A four-lane value is its nibbles, and the S-box keeps distinct nibbles distinct. -/
theorem beta_injective : Function.Injective beta := fun a b hab =>
  Lanes.ext_nibbleAt fun p hp => sbox_injective <|
    calc sbox (nibbleAt a p)
      _ = nibbleAt (beta a) p := (nibbleAt_beta a hp).symm
      _ = nibbleAt (beta b) p := by rw [hab]
      _ = sbox (nibbleAt b p) := nibbleAt_beta b hp

/-- The S-box undone at each bit position undoes Beta. -/
theorem beta_surjective : Function.Surjective beta := by
  intro b
  obtain ⟨sboxInverse, hinv⟩ := sbox_bijective.surjective.hasRightInverse
  refine ⟨lanesOfNibbles fun p => sboxInverse (nibbleAt b p), Lanes.ext_nibbleAt fun p hp => ?_⟩
  rw [nibbleAt_beta _ hp, nibbleAt_lanesOfNibbles _ hp, hinv]

end Sys2Proof.Machine

namespace Sys2Proof

open Sys2Proof.Machine

/-- Settles O28: the formulas agree with the table bit position by bit position, so the two realisations have the same nibbles. -/
theorem betaIsTheSbox : Obligations.BetaIsTheSbox :=
  ⟨fun a _ hp => nibbleAt_beta a hp, betaByTable_eq_beta, by decide⟩

/-- Settles O29: the S-box is a permutation of sixteen values, and Beta is the S-box on each of eight independent nibbles. -/
theorem betaIsBijective : Obligations.BetaIsBijective := ⟨sbox_bijective, beta_injective, beta_surjective⟩

end Sys2Proof

/-! ### The diffusion units: rotations bit by bit, and their inverses

What the proofs of the 41_diffusion.md family share: where `ROL8` moves a bit, so that two rotations by complementary amounts
undo each other. -/

namespace Sys2Proof.Machine

/-- A left rotation by `n` moves bit `p` to bit `(p + n) mod 8` (00_scope.md section 5; 41_diffusion.md R100): up within the
byte, or around past bit 7. -/
theorem getLsbD_rol8 (x : Byte) {n p : Nat} (hn : n < 8) (hp : p < 8) :
    (rol8 x n).getLsbD ((p + n) % 8) = x.getLsbD p := by
  simp only [rol8, BitVec.getLsbD_or, BitVec.getLsbD_shiftLeft, BitVec.getLsbD_ushiftRight]
  by_cases inByte : p + n < 8
  · have above : x.getLsbD (8 - n + (p + n)) = false := BitVec.getLsbD_of_ge x _ (by omega)
    simp [Nat.mod_eq_of_lt inByte, inByte, above]
  · have wrap : (p + n) % 8 = p + n - 8 := by omega
    have below : p + n - 8 < n := by omega
    have source : 8 - n + (p + n - 8) = p := by omega
    simp [wrap, below, source]

/-- Two rotations that together turn the byte all the way round leave it as it was. -/
theorem rol8_rol8_of_full_turn (x : Byte) {m n : Nat} (hm : m < 8) (hn : n < 8) (turn : (m + n) % 8 = 0) :
    rol8 (rol8 x m) n = x := by
  refine BitVec.eq_of_getLsbD_eq fun p hp => ?_
  have hback : ((p + m) % 8 + n) % 8 = p := by omega
  calc (rol8 (rol8 x m) n).getLsbD p
    _ = (rol8 (rol8 x m) n).getLsbD (((p + m) % 8 + n) % 8) := by rw [hback]
    _ = (rol8 x m).getLsbD ((p + m) % 8) := getLsbD_rol8 _ hn (Nat.mod_lt _ (by decide))
    _ = x.getLsbD p := getLsbD_rol8 x hm hp

theorem ror8_rol8 (x : Byte) {n : Nat} (hn : n < 8) : ror8 (rol8 x n) n = x :=
  rol8_rol8_of_full_turn x hn (Nat.mod_lt _ (by decide)) (by omega)

theorem rol8_ror8 (x : Byte) {n : Nat} (hn : n < 8) : rol8 (ror8 x n) n = x :=
  rol8_rol8_of_full_turn x (Nat.mod_lt _ (by decide)) hn (by omega)

/-- The lanes do not mix, so each is turned back on its own (41_diffusion.md R104). -/
@[simp] theorem invShiftLanes_shiftLanes (a : Lanes) : invShiftLanes (shiftLanes a) = a := by
  simp [invShiftLanes, shiftLanes, ror8_rol8]

@[simp] theorem shiftLanes_invShiftLanes (a : Lanes) : shiftLanes (invShiftLanes a) = a := by
  simp [invShiftLanes, shiftLanes, rol8_ror8]

@[simp] theorem invSwitchLanes_switchLanes (a : Lanes) : invSwitchLanes (switchLanes a) = a := rfl

@[simp] theorem switchLanes_invSwitchLanes (a : Lanes) : switchLanes (invSwitchLanes a) = a := rfl

/-- Four moves by one index bring every lane home (41_diffusion.md R101). -/
theorem switchLanes_four_times (a : Lanes) : switchLanes (switchLanes (switchLanes (switchLanes a))) = a := rfl

end Sys2Proof.Machine

namespace Sys2Proof

open Sys2Proof.Machine

/-- Settles O31: each lane's rotation is turned back by the complementary one, and the lane moves are inverse permutations. -/
theorem diffusionInvertible : Obligations.DiffusionInvertible := by
  refine ⟨fun _ => rfl, fun _ => rfl, fun _ => rfl, ?shift, ?switch, switchLanes_four_times, fun _ => rfl, ?examples⟩
  case shift => exact fun a => ⟨invShiftLanes_shiftLanes a, shiftLanes_invShiftLanes a⟩
  case switch => exact fun a => ⟨invSwitchLanes_switchLanes a, switchLanes_invSwitchLanes a⟩
  case examples => decide

/-- Settles O30: lane 0 is copied, and the other lanes are left rotations, whose bits `getLsbD_rol8` follows. -/
theorem shiftLanesRotates : Obligations.ShiftLanesRotates := by
  refine ⟨fun a p hp => ⟨rfl, ?lane1, ?lane2, ?lane3⟩, ?values⟩
  case lane1 => exact getLsbD_rol8 a.l1 (by decide) hp
  case lane2 => exact getLsbD_rol8 a.l2 (by decide) hp
  case lane3 => exact getLsbD_rol8 a.l3 (by decide) hp
  case values => decide

end Sys2Proof

/-! ### The key schedule

What the proofs of the 42_key_schedule.md family share: the four-byte words as integers, the rotation taken any number of
times, the accumulator after any number of steps, and EXPAND's accept and schedule step. A run of EXPAND is followed through
states written out in closed form (`expandAfter`): the key state after `n` schedule steps, and a memory with the entries 1 to
`n` written. -/

namespace Sys2Proof.Machine

/-! Words of four bytes, little-endian (20_memory.md R44) -/

theorem toNat_le32 (x : Lanes) :
    (le32 x).toNat = x.l0.toNat + 256 * x.l1.toNat + 65536 * x.l2.toNat + 16777216 * x.l3.toNat := by
  rw [le32, BitVec.toNat_ofNat]
  omega

/-- A word is the four bytes it is cut into (00_scope.md section 5). -/
theorem le32_bytesLe32 (w : Word) : le32 (bytesLe32 w) = w := by
  refine BitVec.eq_of_toNat_eq ?_
  rw [toNat_le32]
  simp only [bytesLe32, BitVec.extractLsb'_toNat, Nat.shiftRight_eq_div_pow]
  omega

theorem deriveSubkey_fst (k : Vector Byte 32) (rc : Word) :
    (deriveSubkey k rc).1 = setLeadingBytes k (deriveSubkey k rc).2 := rfl

theorem setLeadingBytes_get_above (k : Vector Byte 32) (x : Lanes) {i : Fin 32} (hi : 4 ≤ i.val) :
    (setLeadingBytes k x).get i = k.get i := by
  rw [setLeadingBytes_get, if_neg (by omega), if_neg (by omega), if_neg (by omega), if_neg (by omega)]

/-- The subkey is the word that the leading bytes and the constant add up to (42_key_schedule.md R112). -/
theorem le32_deriveSubkey (k : Vector Byte 32) (rc : Word) :
    le32 (deriveSubkey k rc).2 = le32 (leadingBytes k) + rc := le32_bytesLe32 _

/-! The rotation (42_key_schedule.md R110) -/

theorem klen_pos (v : Variant) : 0 < klen v := Nat.lt_of_lt_of_le (by decide) (four_le_klen v)

/-- `m` rotations move a byte `3 * m` places. -/
theorem repeat_rotateKeyByte_get (v : Variant) (k : Vector Byte 32) (m : Nat) {i : Fin 32} (hi : i.val < klen v) :
    (Nat.repeat (rotateKeyByte v) m k).get i = k.get ⟨(i.val + 3 * m) % klen v, mod_klen_lt v _⟩ := by
  induction m generalizing i with
  | zero => exact congrArg k.get (Fin.ext (Nat.mod_eq_of_lt hi).symm)
  | succ m ih =>
    have moved : ((i.val + 3) % klen v + 3 * m) % klen v = (i.val + 3 * (m + 1)) % klen v := by
      rw [Nat.mod_add_mod, Nat.mul_succ, Nat.add_assoc, Nat.add_comm 3]
    rw [Nat.repeat, rotateKeyByte_get v _ hi, ih (Nat.mod_lt _ (klen_pos v))]
    exact congrArg k.get (Fin.ext moved)

/-- No number of rotations moves a byte above the key length. -/
theorem repeat_rotateKeyByte_get_above (v : Variant) (k : Vector Byte 32) (m : Nat) {i : Fin 32} (hi : klen v ≤ i.val) :
    (Nat.repeat (rotateKeyByte v) m k).get i = k.get i := by
  induction m with
  | zero => rfl
  | succ m ih => rw [Nat.repeat, rotateKeyByte_get_above v _ hi, ih]

/-- `klen` rotations bring every byte home. -/
theorem repeat_rotateKeyByte_klen (v : Variant) (k : Vector Byte 32) : Nat.repeat (rotateKeyByte v) (klen v) k = k := by
  refine key_ext fun i => ?_
  rcases Nat.lt_or_ge i.val (klen v) with hi | hi
  · have home : (i.val + 3 * klen v) % klen v = i.val := by rw [Nat.add_mul_mod_self_right, Nat.mod_eq_of_lt hi]
    rw [repeat_rotateKeyByte_get v k _ hi]
    exact congrArg k.get (Fin.ext home)
  · exact repeat_rotateKeyByte_get_above v k _ hi

/-- The key whose byte `i` is `i`, the key of the rule's examples. -/
def countingKey : Vector Byte 32 := Vector.ofFn fun i => BitVec.ofNat 8 i.val

theorem countingKey_get_toNat (i : Fin 32) : (countingKey.get i).toNat = i.val := by
  rw [← getElem_eq_get, countingKey, Vector.getElem_ofFn, BitVec.toNat_ofNat]
  exact Nat.mod_eq_of_lt (Nat.lt_trans i.isLt (by decide))

/-- Fewer than `klen` rotations, but not none, move byte 0: 3 and `klen` have no common factor. -/
theorem repeat_rotateKeyByte_ne {v : Variant} {m : Nat} (pos : 0 < m) (short : m < klen v) :
    Nat.repeat (rotateKeyByte v) m countingKey ≠ countingKey := by
  intro home
  have byte0 := repeat_rotateKeyByte_get v countingKey m (i := 0) (klen_pos v)
  rw [home] at byte0
  have index := congrArg BitVec.toNat byte0
  rw [countingKey_get_toNat, countingKey_get_toNat] at index
  cases v <;> simp only [klen, Fin.val_zero] at index short <;> omega

/-! The accumulator (42_key_schedule.md R111), and the bytes a subkey depends on -/

theorem keyStateAfter_rc (v : Variant) (k : Vector Byte 32) (n : Nat) :
    (keyStateAfter v k n).rc = BitVec.ofNat 32 (n * delta.toNat) := by
  induction n with
  | zero => simp
  | succ n ih => rw [keyStateAfter_succ, kStep_rc, ih, ofNat_mul_delta_succ]

/-- The first subkey is made with `DELTA` (42_key_schedule.md R111). -/
theorem subkey_one (v : Variant) (k : Vector Byte 32) : subkey v k 1 = (deriveSubkey (rotateKeyByte v k) delta).2 := by
  have first : (0 : Word) + delta = delta := BitVec.zero_add delta
  rw [subkey_succ, keyStateAfter_zero, kStep, first]

/-- Scratch keys that agree on the bytes the variant uses still do after any number of steps. -/
theorem SameKeyPrefix.keyStateAfter_ks {v : Variant} {k k' : Vector Byte 32} (h : SameKeyPrefix v k k') (n : Nat) :
    SameKeyPrefix v (keyStateAfter v k n).ks (keyStateAfter v k' n).ks := by
  induction n with
  | zero => exact h
  | succ n ih =>
    rw [keyStateAfter_succ, keyStateAfter_succ, keyStateAfter_rc, keyStateAfter_rc]
    exact ih.kStep_ks _

/-- Subkeys depend on the bytes the variant uses alone. -/
theorem SameKeyPrefix.subkey_succ {v : Variant} {k k' : Vector Byte 32} (h : SameKeyPrefix v k k') (n : Nat) :
    subkey v k (n + 1) = subkey v k' (n + 1) := by
  rw [Machine.subkey_succ, Machine.subkey_succ, keyStateAfter_rc, keyStateAfter_rc, (h.keyStateAfter_ks n).kStep_sk]

/-- The scratch key loaded from `KEY` agrees with it on what the variant uses (42_key_schedule.md R115). -/
theorem loadedKey_sameKeyPrefix (v : Variant) (key ks : Vector Byte 32) : SameKeyPrefix v (loadedKey v key ks) key :=
  fun i hi => by rw [loadedKey_get, if_pos hi]

/-- K128 loads the first 16 bytes of `KEY`. -/
theorem loadedKey_k128 (key ks : Vector Byte 32) :
    loadedKey .k128 key ks = Vector.ofFn fun i : Fin 32 => if i.val < 16 then key.get i else ks.get i := rfl

/-- K256 loads all of `KEY`. -/
theorem loadedKey_k256 (key ks : Vector Byte 32) : loadedKey .k256 key ks = key :=
  key_ext fun i => loadedKey_sameKeyPrefix .k256 key ks i i.isLt

/-! EXPAND's accept and its schedule step -/

/-- A command word whose checks pass, issued while idle, is accepted (44_host_commands.md R150). -/
theorem exec_accepted {i : Instr} {s : State} (idle : s.status.busy = false)
    (checks : boundaryCheck i.opCode i.variant s = none) :
    exec i s = .next (acceptCommon i.opCode i.variant (loadsOf i s)) := by rw [exec_eq, issue_accepted idle checks]

/-- EXPAND checks `KEYLEN` alone (44_host_commands.md R151). -/
theorem boundaryCheck_expand {v : Variant} {s : State} (length : s.keylen.toNat = klen v) :
    boundaryCheck .expand v s = none :=
  (boundaryCheck_none_iff .expand v s).2 ⟨fun _ => length, nofun, nofun⟩

/-- EXPAND issued while idle with the variant's key length (42_key_schedule.md R115). -/
theorem exec_expand {i : Instr} {s : State} (ho : i.opCode = .expand) (idle : s.status.busy = false)
    (length : s.keylen.toNat = klen i.variant) :
    exec i s = .next (acceptCommon .expand i.variant (expandLoads i.variant s)) := by
  have checks := ho ▸ boundaryCheck_expand length
  rw [exec_accepted idle checks, loadsOf, ho]

/-- EXPAND below its last half-round takes a schedule step (44_host_commands.md R153). -/
theorem engineStep_expandStep {s : State} (busy : s.status.busy = true) (ho : s.op = .expand)
    (hr : s.hr.toNat < halfRounds s.var) : engineStep s = .next (expandStep s) := by
  rw [engineStep_work busy hr, workStep, ho]

/-- EXPAND after its last half-round finishes (44_host_commands.md R153). -/
theorem engineStep_expandFinish {s : State} (busy : s.status.busy = true) (ho : s.op = .expand)
    (hr : s.hr.toNat = halfRounds s.var) : engineStep s = .next (expandFinish s) := by
  rw [engineStep_finish busy hr, finishStep, ho]

/-- `SCHLEN` has room for the entry count of either variant (42_key_schedule.md R117). -/
theorem toNat_slen (v : Variant) : (BitVec.ofNat 8 (slen v)).toNat = slen v := by cases v <;> rfl

/-- EXPAND's accept as one update of the state (42_key_schedule.md R115). -/
theorem acceptCommon_expandLoads (v : Variant) (s : State) : acceptCommon .expand v (expandLoads v s) =
    { s with
      ks := loadedKey v s.key s.ks, rc := 0, schlen := 0, hr := 0, op := .expand, var := v
      status := { s.status with busy := true, done := false, err := false, errcode := 0 } } := by
  simp only [acceptCommon, expandLoads, loadKeyState, State.withKeyState, State.withSchlen, State.withStatus,
    State.withSequencer, Status.accepted]

/-- EXPAND's schedule step as one update of the state (42_key_schedule.md R116). -/
theorem expandStep_eq (s : State) : expandStep s =
    { s with
      ks := (kStep s.var s.ks s.rc).ks, rc := (kStep s.var s.ks s.rc).rc
      eks := s.eks.writeEntry (s.hr.toNat + 1) (kStep s.var s.ks s.rc).sk
      hr := BitVec.ofNat 8 (s.hr.toNat + 1) } := by
  simp only [expandStep, State.withKeyState, State.withEks, State.withHr]

theorem expandStep_entry (s : State) : (expandStep s).entry (s.hr.toNat + 1) = (kStep s.var s.ks s.rc).sk := by
  rw [State.entry, expandStep_eks, Memory.entry_writeEntry_same]

/-- A schedule step writes no byte outside its entry (42_key_schedule.md R116). -/
theorem expandStep_byte_outside (s : State) {a : Nat}
    (ha : a < eksAddress (s.hr.toNat + 1) 0 ∨ eksAddress (s.hr.toNat + 1) 3 < a) :
    (expandStep s).eks.byte (expandStep s).eksDraw a = s.eks.byte s.eksDraw a := by
  rw [expandStep_eks, expandStep_eksDraw, Memory.byte_writeEntry_other _ _ _ _ ha]

/-! A whole run of EXPAND -/

/-- The memory with the subkeys 1 to `n` of key `k` written into their entries. -/
def writeSubkeys (v : Variant) (k : Vector Byte 32) (m : Memory) : Nat → Memory
  | 0 => m
  | n + 1 => (writeSubkeys v k m n).writeEntry (n + 1) (subkey v k (n + 1))

theorem entry_writeSubkeys (v : Variant) (k : Vector Byte 32) (m : Memory) (draw : Nat) {j n : Nat} (pos : 1 ≤ j)
    (le : j ≤ n) : (writeSubkeys v k m n).entry draw j = subkey v k j := by
  induction n with
  | zero => omega
  | succ n ih =>
    rw [writeSubkeys]
    rcases Nat.lt_or_eq_of_le le with lt | rfl
    · rw [Memory.entry_writeEntry_other _ _ _ (Nat.ne_of_lt lt), ih (Nat.le_of_lt_succ lt)]
    · exact Memory.entry_writeEntry_same _ _ _ _

theorem byte_writeSubkeys_outside (v : Variant) (k : Vector Byte 32) (m : Memory) (draw : Nat) {a n : Nat}
    (ha : a < 0x404 ∨ 0x404 + 4 * n ≤ a) : (writeSubkeys v k m n).byte draw a = m.byte draw a := by
  induction n with
  | zero => rfl
  | succ n ih =>
    have outside : a < eksAddress (n + 1) 0 ∨ eksAddress (n + 1) 3 < a := by
      unfold eksAddress eksBase
      omega
    rw [writeSubkeys, Memory.byte_writeEntry_other _ _ _ _ outside, ih (by omega)]

/-- The state `n` schedule steps of EXPAND after the accept that left `s` (42_key_schedule.md R114, R116). -/
def expandAfter (s : State) (n : Nat) : State :=
  ((s.withKeyState (keyStateAfter s.var s.ks n).ks (keyStateAfter s.var s.ks n).rc).withEks
    (writeSubkeys s.var s.ks s.eks n)).withHr (BitVec.ofNat 8 n)

section
variable (s : State) (n : Nat)

@[simp] theorem expandAfter_hr : (expandAfter s n).hr = BitVec.ofNat 8 n := by simp [expandAfter]
@[simp] theorem expandAfter_op : (expandAfter s n).op = s.op := by simp [expandAfter]
@[simp] theorem expandAfter_var : (expandAfter s n).var = s.var := by simp [expandAfter]
@[simp] theorem expandAfter_key : (expandAfter s n).key = s.key := by simp [expandAfter]
@[simp] theorem expandAfter_din : (expandAfter s n).din = s.din := by simp [expandAfter]
@[simp] theorem expandAfter_dout : (expandAfter s n).dout = s.dout := by simp [expandAfter]
@[simp] theorem expandAfter_status : (expandAfter s n).status = s.status := by simp [expandAfter]
@[simp] theorem expandAfter_keylen : (expandAfter s n).keylen = s.keylen := by simp [expandAfter]
@[simp] theorem expandAfter_blklen : (expandAfter s n).blklen = s.blklen := by simp [expandAfter]
@[simp] theorem expandAfter_eks : (expandAfter s n).eks = writeSubkeys s.var s.ks s.eks n := by simp [expandAfter]
@[simp] theorem expandAfter_eksDraw : (expandAfter s n).eksDraw = s.eksDraw := by simp [expandAfter]
@[simp] theorem expandAfter_schedule : (expandAfter s n).schedule = s.schedule := by simp [expandAfter]

end

theorem expandAfter_zero {s : State} (hr : s.hr = 0) (rc : s.rc = 0) : expandAfter s 0 = s := by
  cases s
  cases hr
  cases rc
  rfl

theorem expandAfter_hr_toNat (s : State) {n : Nat} (hn : n ≤ halfRounds s.var) : (expandAfter s n).hr.toNat = n := by
  have := halfRounds_le s.var
  rw [expandAfter_hr, BitVec.toNat_ofNat]
  omega

/-- A schedule step leads from each of the states to the next. -/
theorem expandStep_expandAfter (s : State) {n : Nat} (hn : n < halfRounds s.var) :
    expandStep (expandAfter s n) = expandAfter s (n + 1) := by
  rw [expandStep, expandAfter_hr_toNat s (Nat.le_of_lt hn)]
  rfl

end Sys2Proof.Machine

namespace Sys2Proof

open Sys2Proof.Machine

/-- A run follows a path whose every state steps to the next. -/
theorem runSteps_path {path : Nat → State} {last : Nat} (next : ∀ n < last, step (path n) = .next (path (n + 1))) :
    ∀ n ≤ last, runSteps n (path 0) = .next (path n)
  | 0, _ => rfl
  | n + 1, hn => by
    rw [runSteps_add (runSteps_path next n (Nat.le_of_lt hn)), runSteps_succ (next n hn), runSteps_zero]

section
variable {s : State} (busy : s.status.busy = true) (ho : s.op = .expand) (hr : s.hr = 0) (rc : s.rc = 0)
  (alone : s.schedule = [])
include busy ho hr rc alone

/-- The run of EXPAND from its accept, schedule step by schedule step (42_key_schedule.md R116). -/
theorem runSteps_expandAfter {n : Nat} (hn : n ≤ halfRounds s.var) : runSteps n s = .next (expandAfter s n) := by
  have next : ∀ m < halfRounds s.var, step (expandAfter s m) = .next (expandAfter s (m + 1)) := fun m hm => by
    have below : (expandAfter s m).hr.toNat < halfRounds (expandAfter s m).var := by
      rwa [expandAfter_var, expandAfter_hr_toNat s (Nat.le_of_lt hm)]
    rw [step_empty (by simpa using alone), engineStep_expandStep (by simpa using busy) (by simpa using ho) below,
      expandStep_expandAfter s hm]
  simpa only [expandAfter_zero hr rc] using runSteps_path next n hn

/-- One step more, the finish (42_key_schedule.md R117). -/
theorem runSteps_expandFinish :
    runSteps (halfRounds s.var + 1) s = .next (expandFinish (expandAfter s (halfRounds s.var))) := by
  have last : (expandAfter s (halfRounds s.var)).hr.toNat = halfRounds (expandAfter s (halfRounds s.var)).var := by
    rw [expandAfter_var, expandAfter_hr_toNat s (Nat.le_refl _)]
  have finish : step (expandAfter s (halfRounds s.var)) = .next (expandFinish (expandAfter s (halfRounds s.var))) := by
    rw [step_empty (by simpa using alone), engineStep_expandFinish (by simpa using busy) (by simpa using ho) last]
  rw [runSteps_add (runSteps_expandAfter busy ho hr rc alone (Nat.le_refl _)), runSteps_succ finish, runSteps_zero]

end

/-- Settles O45: the run from the accept goes through the states `expandAfter`, whose memory holds the subkeys of the loaded
scratch key, and those are the subkeys of `KEY`. -/
theorem expandBuildsTable : Obligations.ExpandBuildsTable := by
  refine ⟨fun i s ho idle alone length => ?run, ?example1, ?example2, ?example3, ?example64⟩
  case run =>
    obtain ⟨t, ht⟩ : ∃ t, t = acceptCommon .expand i.variant (expandLoads i.variant s) := ⟨_, rfl⟩
    have busy : t.status.busy = true := by simp [ht]
    have op : t.op = .expand := by simp [ht]
    have hr : t.hr = 0 := by simp [ht]
    have rc : t.rc = 0 := by simp [ht]
    have schedule : t.schedule = [] := by simp [ht, alone]
    have var : t.var = i.variant := by simp [ht]
    rw [← var]
    refine ⟨t, expandFinish (expandAfter t (halfRounds t.var)), ht ▸ exec_expand ho idle length,
      runSteps_expandFinish busy op hr rc schedule, fun k hk => ?stillBusy, fun n pos hn => ?table, fun a ha => ?outside,
      ?schlen, ?registers⟩
    case stillBusy => exact ⟨expandAfter t k, runSteps_expandAfter busy op hr rc schedule hk, by simpa using busy⟩
    case table =>
      obtain ⟨m, rfl⟩ := Nat.exists_eq_succ_of_ne_zero (Nat.ne_of_gt pos)
      rw [State.entry, expandFinish_eks, expandAfter_eks, entry_writeSubkeys (n := halfRounds t.var) _ _ _ _ pos hn]
      simpa [ht] using (loadedKey_sameKeyPrefix i.variant s.key s.ks).subkey_succ m
    case outside =>
      rw [expandFinish_eks, expandAfter_eks, byte_writeSubkeys_outside (n := halfRounds t.var) _ _ _ _ ha]
      simp [ht]
    case schlen => rw [expandFinish_schlen, expandAfter_var, toNat_slen]
    case registers => simp [ht, Status.finished, Status.accepted]
  case example1 | example2 | example3 | example64 => decide +kernel

/-- Settles O33: byte by byte, a rotation moves by three places and `m` rotations by `3 * m`. -/
theorem keyRotation : Obligations.KeyRotation :=
  ⟨fun v k _ _ hi => rotateKeyByte_get v k hi, fun v k _ hi => rotateKeyByte_get_above v k hi, repeat_rotateKeyByte_klen,
    fun _ _ pos short => ⟨countingKey, repeat_rotateKeyByte_ne pos short⟩, by decide, by decide⟩

/-- Settles O34: the subkey is a little-endian sum of words, so its value is the sum of their values modulo 2^32. -/
theorem subkeyDerivation : Obligations.SubkeyDerivation := by
  refine ⟨fun k rc => ?sum, fun k rc => ⟨?byte0, ?byte1, ?byte2, ?byte3, fun i hi => ?above⟩, by decide⟩
  case sum =>
    calc
      _ = (le32 (deriveSubkey k rc).2).toNat := (toNat_le32 _).symm
      _ = ((le32 (leadingBytes k)).toNat + rc.toNat) % 2 ^ 32 := by rw [le32_deriveSubkey, BitVec.toNat_add]
      _ = _ := by rw [toNat_le32, leadingBytes]
  case above => rw [deriveSubkey_fst, setLeadingBytes_get_above _ _ hi]
  case byte0 | byte1 | byte2 | byte3 => exact setLeadingBytes_get _ _ _

/-- Settles O35: the step is defined as the three units in their order, and none of them touches the bytes from `klen` up. -/
theorem scheduleStepComposes : Obligations.ScheduleStepComposes :=
  ⟨fun _ _ _ => ⟨rfl, rfl, rfl⟩, fun _ ks rc _ hi => kStep_ks_get_above hi ks rc, by decide⟩

/-- Settles O36: after `n` steps the accumulator is the word of `n * DELTA`. -/
theorem accumulatorValues : Obligations.AccumulatorValues := by
  refine ⟨kStep_rc, subkey_one, fun v k n => ?general, fun v k => ?values⟩
  case general =>
    have deltaValue : delta.toNat = 0x9E3779B9 := by decide
    rw [keyStateAfter_rc, BitVec.toNat_ofNat, deltaValue]
  case values =>
    simp only [keyStateAfter_rc]
    decide

/-- Settles O39: the step is `expandStep`, register by register, and from the key state after `HR` steps `kStep` derives the
next subkey. -/
theorem expandStepWritesOneEntry : Obligations.ExpandStepWritesOneEntry := by
  intro s busy ho hr
  refine ⟨expandStep s, engineStep_expandStep busy ho hr, expandStep_ks s, expandStep_rc s, expandStep_entry s, ?hr,
    fun a ha => expandStep_byte_outside s ha, ?entry0, ?frame, fun k hks hrc => ?subkey⟩
  case hr => rw [expandStep_hr, toNat_nextHr hr]
  case entry0 =>
    rw [State.entry, expandStep_eks, expandStep_eksDraw, Memory.entry_writeEntry_other _ _ _ (Nat.succ_ne_zero _).symm,
      State.entry]
  case frame =>
    rw [expandStep_ks, expandStep_rc, expandStep_eks, expandStep_hr]
    exact expandStep_eq s
  case subkey => rw [expandStep_entry, subkey_succ, hks, hrc]

/-- Settles O17: `KEYLEN` is the one length checked, and the accept with EXPAND's loads is the state the rule gives. -/
theorem expandAccepted : Obligations.ExpandAccepted := by
  refine ⟨fun s idle length => ?k128, fun s idle length => ?k256⟩
  case k128 =>
    have length' : s.keylen.toNat = klen .k128 := congrArg BitVec.toNat length
    rw [exec_expand (i := .expandK128) rfl idle length', acceptCommon_expandLoads, Instr.variant, loadedKey_k128]
  case k256 =>
    have length' : s.keylen.toNat = klen .k256 := congrArg BitVec.toNat length
    rw [exec_expand (i := .expandK256) rfl idle length', acceptCommon_expandLoads, Instr.variant, loadedKey_k256]

end Sys2Proof

/-! ### The Feistel engine

What the proofs of the 43_feistel_engine.md family share: the accepts of ENCRYPT and DECRYPT, their half-rounds branch by branch,
and that a decryption half-round undoes an encryption half-round of the other parity. A whole run is followed through states
written out in closed form (`encryptRun`, `decryptRun`), as EXPAND's is through `expandAfter`. -/

namespace Sys2Proof.Machine

/-! The accepts (43_feistel_engine.md R131, R135) -/

/-- ENCRYPT checks `KEYLEN` and `BLKLEN` (44_host_commands.md R151). -/
theorem boundaryCheck_encrypt {v : Variant} {s : State} (keylen : s.keylen.toNat = klen v) (blklen : s.blklen = 8) :
    boundaryCheck .encrypt v s = none :=
  (boundaryCheck_none_iff .encrypt v s).2 ⟨fun _ => keylen, fun _ => congrArg BitVec.toNat blklen, nofun⟩

/-- DECRYPT checks `BLKLEN` and `SCHLEN` (44_host_commands.md R151). -/
theorem boundaryCheck_decrypt {v : Variant} {s : State} (blklen : s.blklen = 8) (schlen : s.schlen.toNat = slen v) :
    boundaryCheck .decrypt v s = none :=
  (boundaryCheck_none_iff .decrypt v s).2 ⟨nofun, fun _ => congrArg BitVec.toNat blklen, fun _ => schlen⟩

/-- ENCRYPT issued while idle with the right lengths (43_feistel_engine.md R131). -/
theorem exec_encrypt {i : Instr} {s : State} (ho : i.opCode = .encrypt) (idle : s.status.busy = false)
    (keylen : s.keylen.toNat = klen i.variant) (blklen : s.blklen = 8) :
    exec i s = .next (acceptCommon .encrypt i.variant (encryptLoads i.variant s)) := by
  have checks := ho ▸ boundaryCheck_encrypt keylen blklen
  rw [exec_accepted idle checks, loadsOf, ho]

/-- DECRYPT issued while idle with the right lengths (43_feistel_engine.md R135). -/
theorem exec_decrypt {i : Instr} {s : State} (ho : i.opCode = .decrypt) (idle : s.status.busy = false)
    (blklen : s.blklen = 8) (schlen : s.schlen.toNat = slen i.variant) :
    exec i s = .next (acceptCommon .decrypt i.variant (decryptLoads s)) := by
  have checks := ho ▸ boundaryCheck_decrypt blklen schlen
  rw [exec_accepted idle checks, loadsOf, ho]

/-- ENCRYPT's accept as one update of the state (43_feistel_engine.md R131). -/
theorem acceptCommon_encryptLoads (v : Variant) (s : State) : acceptCommon .encrypt v (encryptLoads v s) =
    { s with
      l := leftOfBlock s.din, r := rightOfBlock s.din, ks := loadedKey v s.key s.ks, rc := 0, hr := 0, op := .encrypt
      var := v, status := { s.status with busy := true, done := false, err := false, errcode := 0 } } := by
  simp only [acceptCommon, encryptLoads, loadBlock, loadKeyState, State.withKeyState, State.withBranches, State.withStatus,
    State.withSequencer, Status.accepted]

/-- DECRYPT's accept as one update of the state (43_feistel_engine.md R135). -/
theorem acceptCommon_decryptLoads (v : Variant) (s : State) : acceptCommon .decrypt v (decryptLoads s) =
    { s with
      l := leftOfBlock s.din, r := rightOfBlock s.din, hr := 0, op := .decrypt, var := v
      status := { s.status with busy := true, done := false, err := false, errcode := 0 } } := rfl

/-! The half-rounds (43_feistel_engine.md R132, R134) and the finish -/

section
variable {s : State} (busy : s.status.busy = true)
include busy

theorem engineStep_encryptHalfRound (ho : s.op = .encrypt) (hr : s.hr.toNat < halfRounds s.var) :
    engineStep s = .next (encryptHalfRound s) := by
  rw [engineStep_work busy hr, workStep, ho]

theorem engineStep_encryptFinish (ho : s.op = .encrypt) (hr : s.hr.toNat = halfRounds s.var) :
    engineStep s = .next (encryptFinish s) := by
  rw [engineStep_finish busy hr, finishStep, ho]

theorem engineStep_decryptHalfRound (ho : s.op = .decrypt) (hr : s.hr.toNat < halfRounds s.var) :
    engineStep s = .next (decryptHalfRound s) := by
  rw [engineStep_work busy hr, workStep, ho]

theorem engineStep_decryptFinish (ho : s.op = .decrypt) (hr : s.hr.toNat = halfRounds s.var) :
    engineStep s = .next (decryptFinish s) := by
  rw [engineStep_finish busy hr, finishStep, ho]

end

section
variable {n : Nat} (sk l r : Lanes)

theorem encryptBranches_odd (odd : n % 2 = 1) : encryptBranches n sk l r = (l, r.xor (halfRoundF l sk)) := if_pos odd

theorem encryptBranches_even (even : n % 2 = 0) : encryptBranches n sk l r = (l.xor (halfRoundF r sk), r) :=
  if_neg (by omega)

theorem decryptBranches_odd (odd : n % 2 = 1) : decryptBranches n sk l r = (l.xor (halfRoundF r sk), r) := if_pos odd

theorem decryptBranches_even (even : n % 2 = 0) : decryptBranches n sk l r = (l, r.xor (halfRoundF l sk)) :=
  if_neg (by omega)

/-- Half-rounds of opposite parity update the same branch with the same `F`, so the second takes the first back. -/
theorem decryptBranches_encryptBranches {m : Nat} (parity : (n + m) % 2 = 1) :
    decryptBranches n sk (encryptBranches m sk l r).1 (encryptBranches m sk l r).2 = (l, r) := by
  rcases Nat.mod_two_eq_zero_or_one n with hn | hn
  · rw [encryptBranches_odd (n := m) sk l r (by omega), decryptBranches_even sk _ _ hn, Lanes.xor_xor_self]
  · rw [encryptBranches_even (n := m) sk l r (by omega), decryptBranches_odd sk _ _ hn, Lanes.xor_xor_self]

end

/-- A half-round of ENCRYPT as one update of the state (43_feistel_engine.md R132). -/
theorem encryptHalfRound_eq (s : State) : encryptHalfRound s =
    { s with
      ks := (kStep s.var s.ks s.rc).ks, rc := (kStep s.var s.ks s.rc).rc, hr := BitVec.ofNat 8 (s.hr.toNat + 1)
      l := (encryptBranches (s.hr.toNat + 1) (kStep s.var s.ks s.rc).sk s.l s.r).1
      r := (encryptBranches (s.hr.toNat + 1) (kStep s.var s.ks s.rc).sk s.l s.r).2 } := by
  simp only [encryptHalfRound, State.withKeyState, State.withBranches, State.withHr]

/-- A half-round of DECRYPT as one update of the state (43_feistel_engine.md R134). -/
theorem decryptHalfRound_eq (s : State) : decryptHalfRound s =
    { s with
      hr := BitVec.ofNat 8 (s.hr.toNat + 1)
      l := (decryptBranches (s.hr.toNat + 1) (s.entry (halfRounds s.var + 1 - (s.hr.toNat + 1))) s.l s.r).1
      r := (decryptBranches (s.hr.toNat + 1) (s.entry (halfRounds s.var + 1 - (s.hr.toNat + 1))) s.l s.r).2 } := by
  simp only [decryptHalfRound, State.withBranches, State.withHr]

/-! The cipher as a function of subkeys and block (43_feistel_engine.md R137, R138) -/

/-- Encryption uses the subkeys from number 1 on. -/
theorem encryptAfter_congr {sk sk' : Nat → Lanes} (agree : ∀ m, sk (m + 1) = sk' (m + 1)) (l r : Lanes) (n : Nat) :
    encryptAfter sk l r n = encryptAfter sk' l r n := by
  induction n with
  | zero => rfl
  | succ n ih => rw [encryptAfter_succ, encryptAfter_succ, ih, agree]

/-- `n` decryption half-rounds take back the last `n` of an even number of encryption half-rounds, with a table that agrees
with the subkeys at the entries read. -/
theorem decryptAfter_encryptAfter {total : Nat} (even : total % 2 = 0) {table sk : Nat → Lanes}
    (agree : ∀ j, 1 ≤ j → j ≤ total → table j = sk j) (l r : Lanes) {n : Nat} (hn : n ≤ total) :
    decryptAfter total table (encryptAfter sk l r total).1 (encryptAfter sk l r total).2 n =
      encryptAfter sk l r (total - n) := by
  induction n with
  | zero => rfl
  | succ n ih =>
    obtain ⟨m, hm⟩ : ∃ m, total - n = m + 1 := ⟨total - (n + 1), by omega⟩
    have entry : total + 1 - (n + 1) = m + 1 := by omega
    have left : total - (n + 1) = m := by omega
    rw [decryptAfter_succ, ih (Nat.le_of_lt hn), hm, entry, left, agree (m + 1) (by omega) (by omega), encryptAfter_succ,
      decryptBranches_encryptBranches _ _ _ (by omega)]

/-- Decryption with a table that agrees with the subkeys undoes encryption under them (43_feistel_engine.md R138). -/
theorem decryptBlock_encryptBlockWith {v : Variant} {table sk : Nat → Lanes}
    (agree : ∀ j, 1 ≤ j → j ≤ halfRounds v → table j = sk j) (b : Vector Byte 8) :
    decryptBlock v table (encryptBlockWith v sk b) = b := by
  have even : halfRounds v % 2 = 0 := Nat.mul_mod_right 2 (rounds v)
  rw [decryptBlock, encryptBlockWith, leftOfBlock_blockOf, rightOfBlock_blockOf,
    decryptAfter_encryptAfter even agree _ _ (Nat.le_refl _), Nat.sub_self, encryptAfter_zero, blockOf_branches]

/-! Whole runs of ENCRYPT and DECRYPT -/

/-- `HR` counts every half-round without wrapping (10_state.md R14). -/
theorem toNat_ofNat_of_le_halfRounds {v : Variant} {n : Nat} (hn : n ≤ halfRounds v) : (BitVec.ofNat 8 n).toNat = n := by
  have := halfRounds_le v
  rw [BitVec.toNat_ofNat]
  omega

/-- The state `n` half-rounds of ENCRYPT after the accept that left `s` (43_feistel_engine.md R132). -/
def encryptRun (s : State) (n : Nat) : State :=
  ((s.withKeyState (keyStateAfter s.var s.ks n).ks (keyStateAfter s.var s.ks n).rc).withBranches
    (encryptAfter (subkey s.var s.ks) s.l s.r n).1 (encryptAfter (subkey s.var s.ks) s.l s.r n).2).withHr (BitVec.ofNat 8 n)

/-- The state `n` half-rounds of DECRYPT after the accept that left `s` (43_feistel_engine.md R134). -/
def decryptRun (s : State) (n : Nat) : State :=
  (s.withBranches (decryptAfter (halfRounds s.var) s.entry s.l s.r n).1
    (decryptAfter (halfRounds s.var) s.entry s.l s.r n).2).withHr (BitVec.ofNat 8 n)

theorem encryptRun_zero {s : State} (hr : s.hr = 0) (rc : s.rc = 0) : encryptRun s 0 = s := by
  cases s
  cases hr
  cases rc
  rfl

theorem decryptRun_zero {s : State} (hr : s.hr = 0) : decryptRun s 0 = s := by
  cases s
  cases hr
  rfl

theorem encryptRun_hr_toNat (s : State) {n : Nat} (hn : n ≤ halfRounds s.var) : (encryptRun s n).hr.toNat = n :=
  toNat_ofNat_of_le_halfRounds hn

/-- A half-round leads from each of the states to the next. -/
theorem encryptHalfRound_encryptRun (s : State) {n : Nat} (hn : n < halfRounds s.var) :
    encryptHalfRound (encryptRun s n) = encryptRun s (n + 1) := by
  rw [encryptHalfRound, encryptRun_hr_toNat s (Nat.le_of_lt hn)]
  rfl

theorem decryptRun_hr_toNat (s : State) {n : Nat} (hn : n ≤ halfRounds s.var) : (decryptRun s n).hr.toNat = n :=
  toNat_ofNat_of_le_halfRounds hn

/-- A half-round leads from each of the states to the next. -/
theorem decryptHalfRound_decryptRun (s : State) {n : Nat} (hn : n < halfRounds s.var) :
    decryptHalfRound (decryptRun s n) = decryptRun s (n + 1) := by
  rw [decryptHalfRound, decryptRun_hr_toNat s (Nat.le_of_lt hn)]
  rfl

section
variable {s : State} (busy : s.status.busy = true)
include busy

theorem engineStep_encryptRun (ho : s.op = .encrypt) {n : Nat} (hn : n < halfRounds s.var) :
    engineStep (encryptRun s n) = .next (encryptRun s (n + 1)) := by
  have hr : (encryptRun s n).hr.toNat < halfRounds s.var := by rwa [encryptRun_hr_toNat s (Nat.le_of_lt hn)]
  rw [engineStep_encryptHalfRound (s := encryptRun s n) busy ho hr, encryptHalfRound_encryptRun s hn]

theorem engineStep_encryptRun_last (ho : s.op = .encrypt) : engineStep (encryptRun s (halfRounds s.var)) =
    .next (encryptFinish (encryptRun s (halfRounds s.var))) :=
  engineStep_encryptFinish (s := encryptRun s (halfRounds s.var)) busy ho (encryptRun_hr_toNat s (Nat.le_refl _))

theorem engineStep_decryptRun (ho : s.op = .decrypt) {n : Nat} (hn : n < halfRounds s.var) :
    engineStep (decryptRun s n) = .next (decryptRun s (n + 1)) := by
  have hr : (decryptRun s n).hr.toNat < halfRounds s.var := by rwa [decryptRun_hr_toNat s (Nat.le_of_lt hn)]
  rw [engineStep_decryptHalfRound (s := decryptRun s n) busy ho hr, decryptHalfRound_decryptRun s hn]

theorem engineStep_decryptRun_last (ho : s.op = .decrypt) : engineStep (decryptRun s (halfRounds s.var)) =
    .next (decryptFinish (decryptRun s (halfRounds s.var))) :=
  engineStep_decryptFinish (s := decryptRun s (halfRounds s.var)) busy ho (decryptRun_hr_toNat s (Nat.le_refl _))

end

end Sys2Proof.Machine

namespace Sys2Proof

open Sys2Proof.Machine

/-- A run of the engine alone along busy states, each leading to the next and the last to a finish. -/
theorem runSteps_operation {path : Nat → State} {last : Nat} {fin : State} (alone : ∀ n, (path n).schedule = [])
    (busy : ∀ n, (path n).status.busy = true) (next : ∀ n < last, engineStep (path n) = .next (path (n + 1)))
    (finish : engineStep (path last) = .next fin) : runSteps (last + 1) (path 0) = .next fin ∧
      ∀ k ≤ last, ∃ w : State, runSteps k (path 0) = .next w ∧ w.status.busy = true := by
  have reach : ∀ n ≤ last, runSteps n (path 0) = .next (path n) :=
    runSteps_path fun n hn => (step_empty (alone n)).trans (next n hn)
  refine ⟨?_, fun k hk => ⟨path k, reach k hk, busy k⟩⟩
  rw [runSteps_add (reach last (Nat.le_refl _)), runSteps_succ ((step_empty (alone last)).trans finish), runSteps_zero]

/-- Settles O48: the decryption half-rounds take back the encryption half-rounds, last first. -/
theorem decryptUndoesEncrypt : Obligations.DecryptUndoesEncrypt :=
  fun _ _ b _ agree => decryptBlock_encryptBlockWith agree b

/-- Settles O46: the run from the accept goes through the states `encryptRun`, whose branches are the cipher's under the subkeys
of the loaded scratch key, and those are the subkeys of `KEY`. -/
theorem encryptComputesCiphertext : Obligations.EncryptComputesCiphertext := by
  refine ⟨fun i s ho idle alone keylen blklen => ?run, ?k128, ?k256⟩
  case run =>
    obtain ⟨t, ht⟩ : ∃ t, t = acceptCommon .encrypt i.variant (encryptLoads i.variant s) := ⟨_, rfl⟩
    have busy : t.status.busy = true := by simp [ht]
    have op : t.op = .encrypt := by simp [ht]
    have var : t.var = i.variant := by simp [ht]
    have schedule : t.schedule = [] := by simp [ht, alone]
    have start : encryptRun t 0 = t := encryptRun_zero (by simp [ht]) (by simp [ht])
    obtain ⟨whole, stillBusy⟩ := runSteps_operation (path := encryptRun t) (fun _ => schedule) (fun _ => busy)
      (fun _ hn => engineStep_encryptRun busy op hn) (engineStep_encryptRun_last busy op)
    rw [start] at whole stillBusy
    rw [← var]
    refine ⟨t, encryptFinish (encryptRun t (halfRounds t.var)), ht ▸ exec_encrypt ho idle keylen blklen, whole, stillBusy,
      ?dout, ?registers⟩
    case dout =>
      have subkeys := (loadedKey_sameKeyPrefix i.variant s.key s.ks).subkey_succ
      simp [encryptRun, ht, encryptBlock, encryptBlockWith, encryptAfter_congr subkeys]
    case registers => simp [encryptRun, ht, Status.finished, Status.accepted]
  case k128 | k256 => decide +kernel

/-- Settles O47: the run from the accept goes through the states `decryptRun`, whose branches are the cipher's with the table. -/
theorem decryptComputesFromTable : Obligations.DecryptComputesFromTable := by
  refine ⟨fun i s ho idle alone blklen schlen => ?run, ?k128⟩
  case run =>
    obtain ⟨t, ht⟩ : ∃ t, t = acceptCommon .decrypt i.variant (decryptLoads s) := ⟨_, rfl⟩
    have busy : t.status.busy = true := by simp [ht]
    have op : t.op = .decrypt := by simp [ht]
    have var : t.var = i.variant := by simp [ht]
    have schedule : t.schedule = [] := by simp [ht, alone]
    have start : decryptRun t 0 = t := decryptRun_zero (by simp [ht])
    obtain ⟨whole, stillBusy⟩ := runSteps_operation (path := decryptRun t) (fun _ => schedule) (fun _ => busy)
      (fun _ hn => engineStep_decryptRun busy op hn) (engineStep_decryptRun_last busy op)
    rw [start] at whole stillBusy
    rw [← var]
    refine ⟨t, decryptFinish (decryptRun t (halfRounds t.var)), ht ▸ exec_decrypt ho idle blklen schlen, whole, stillBusy,
      ?dout, ?registers⟩
    case dout =>
      have table : (acceptCommon .decrypt i.variant (decryptLoads s)).entry = s.entry := rfl
      simp [decryptRun, ht, table, decryptBlock]
    case registers => simp [decryptRun, ht, Status.finished, Status.accepted]
  case k128 => decide +kernel

end Sys2Proof

/-! ### Commands of the schedule

A command word that the host writes and then runs (30_encoding.md R75): the accept, the engine's steps and the finish beneath a
`RUN` are those of the command alone, so a statement about a run with no event to come carries over. -/

namespace Sys2Proof.Machine

theorem loadsOf_withSchedule (i : Instr) (s : State) (es : List Event) :
    loadsOf i (s.withSchedule es) = (loadsOf i s).withSchedule es := by
  rcases loadsOf_cases i with ⟨_, h⟩ | ⟨_, h⟩ | ⟨_, h⟩ <;> rw [h] <;> rfl

/-- A command word does not look at the events to come. -/
theorem exec_withSchedule {i : Instr} {s t : State} (h : exec i s = .next t) (es : List Event) :
    exec i (s.withSchedule es) = .next (t.withSchedule es) := by
  rw [exec_eq] at h ⊢
  cases h
  rcases issue_cases i.opCode i.variant (loadsOf i) s with ⟨busy, he⟩ | ⟨idle, e, check, he⟩ | ⟨idle, check, he⟩
  · rw [he, issue_busy (s := s.withSchedule es) busy]
    rfl
  · rw [he, issue_refused (s := s.withSchedule es) idle check]
    rfl
  · rw [he, issue_accepted (s := s.withSchedule es) idle check, loadsOf_withSchedule]
    rfl

/-- A command word leaves the events to come alone. -/
theorem exec_schedule {i : Instr} {s t : State} (h : exec i s = .next t) : t.schedule = s.schedule := by
  rw [exec_eq] at h
  cases h
  rcases issue_cases i.opCode i.variant (loadsOf i) s with ⟨_, he⟩ | ⟨_, _, _, he⟩ | ⟨_, _, he⟩ <;> simp [he]

/-- The engine does not look at the events to come. -/
theorem engineStep_withSchedule {s t : State} (h : engineStep s = .next t) (es : List Event) :
    engineStep (s.withSchedule es) = .next (t.withSchedule es) := by
  obtain ⟨_, _, _, _, hovr⟩ := engineStep_operands h
  obtain ⟨_, _, _, _, _, _, hresults⟩ := engineStep_latched h
  have trace : t.withHostTrace s.status.ovr es s.results = t.withSchedule es := by rw [← hovr, ← hresults]; rfl
  exact trace ▸ engineStep_withHostTrace s s.status.ovr es s.results h

/-- A busy core under a `RUN` takes its engine step, and the `RUN` stays (30_encoding.md R75). -/
theorem step_run_busy {s t : State} (busy : s.status.busy = true) (h : engineStep s = .next t) (rest : List Event) :
    step (s.withSchedule (.run :: rest)) = .next (t.withSchedule (.run :: rest)) :=
  calc step (s.withSchedule (.run :: rest))
    _ = performEvent .run (s.withSchedule rest) := step_event rfl
    _ = engineStep (s.withSchedule (.run :: rest)) := performEvent_run_busy (s := s.withSchedule rest) busy
    _ = .next (t.withSchedule (.run :: rest)) := engineStep_withSchedule h _

/-- A `RUN` leaves an idle core (30_encoding.md R75). -/
theorem step_run_idle {s : State} (idle : s.status.busy = false) (rest : List Event) :
    step (s.withSchedule (.run :: rest)) = .next (s.withSchedule rest) :=
  (step_event rfl).trans (performEvent_run_idle (s := s.withSchedule rest) idle)

end Sys2Proof.Machine

namespace Sys2Proof

open Sys2Proof.Machine

/-- The engine's run with no event to come is also its run beneath a `RUN`, as long as the core is busy. -/
theorem runSteps_run {n : Nat} {s u : State} (alone : s.schedule = [])
    (busy : ∀ k < n, ∃ w : State, runSteps k s = .next w ∧ w.status.busy = true) (run : runSteps n s = .next u)
    (rest : List Event) : runSteps n (s.withSchedule (.run :: rest)) = .next (u.withSchedule (.run :: rest)) := by
  induction n generalizing s with
  | zero =>
    cases run
    rfl
  | succ n ih =>
    obtain ⟨t, first, later⟩ := runSteps_succ_next run
    obtain ⟨_, here, busyNow⟩ := busy 0 (Nat.succ_pos n)
    cases here
    have turn : engineStep s = .next t := (step_empty alone).symm.trans first
    obtain ⟨_, _, _, _, _, hschedule, _⟩ := engineStep_latched turn
    rw [runSteps_succ (step_run_busy busyNow turn rest)]
    refine ih (hschedule.trans alone) (fun k hk => ?_) later
    rw [← runSteps_succ first]
    exact busy (k + 1) (Nat.succ_lt_succ hk)

/-- A command of the schedule with its `RUN`: one step for the write to `CMD`, those of the command alone, and one in which the
`RUN` leaves (log 11). -/
theorem runSteps_command {i : Instr} {s t u : State} {n : Nat} {rest : List Event}
    (events : s.schedule = .write 0x030 (encode i) :: .run :: rest) (accept : exec i (s.withSchedule []) = .next t)
    (whole : runSteps (n + 1) t = .next u)
    (stillBusy : ∀ k ≤ n, ∃ w : State, runSteps k t = .next w ∧ w.status.busy = true) (idle : u.status.busy = false) :
    runSteps (n + 3) s = .next (u.withSchedule rest) := by
  have write : step s = .next (t.withSchedule (.run :: rest)) :=
    calc step s
      _ = commandWrite (encode i) (s.withSchedule (.run :: rest)) := step_writeCmd events
      _ = exec i (s.withSchedule (.run :: rest)) := commandWrite_ok (decode_encode i)
      _ = .next (t.withSchedule (.run :: rest)) := exec_withSchedule accept _
  have engine : runSteps (n + 1) (t.withSchedule (.run :: rest)) = .next (u.withSchedule (.run :: rest)) :=
    runSteps_run (exec_schedule accept) (fun k hk => stillBusy k (Nat.le_of_lt_succ hk)) whole rest
  calc runSteps (n + 3) s
    _ = runSteps (n + 2) (t.withSchedule (.run :: rest)) := runSteps_succ write
    _ = runSteps 1 (u.withSchedule (.run :: rest)) := runSteps_add (k := 1) engine
    _ = .next (u.withSchedule rest) := runSteps_succ (step_run_idle idle rest)

/-- Settles O49: the three commands are those of `ExpandBuildsTable`, `EncryptComputesCiphertext` and
`DecryptComputesFromTable`, each from the state the one before left, and the decryption is with the table of the key. -/
theorem hardwareRoundTrip : Obligations.HardwareRoundTrip := by
  intro v expand encrypt decrypt s expandOp encryptOp decryptOp expandVar encryptVar decryptVar idle keylen blklen events
  obtain ⟨expandRuns, _⟩ := expandBuildsTable
  obtain ⟨encryptRuns, _⟩ := encryptComputesCiphertext
  obtain ⟨decryptRuns, _⟩ := decryptComputesFromTable
  obtain ⟨t₁, u₁, accept₁, whole₁, busy₁, table, _, schlen₁, key₁, _, din₁, keylen₁, blklen₁, status₁⟩ :=
    expandRuns expand (s.withSchedule []) expandOp idle rfl (expandVar ▸ keylen)
  obtain ⟨t₂, u₂, accept₂, whole₂, busy₂, dout₂, eks₂, draw₂, schlen₂, _, _, _, blklen₂, status₂⟩ :=
    encryptRuns encrypt (u₁.withSchedule []) encryptOp (congrArg Status.busy status₁) rfl
      (encryptVar ▸ (congrArg BitVec.toNat keylen₁).trans keylen) (blklen₁.trans blklen)
  obtain ⟨t₃, u₃, accept₃, whole₃, busy₃, dout₃, _, _, _, _, _, _, _, _, _, status₃⟩ :=
    decryptRuns decrypt { u₂ with din := u₂.dout, schedule := [] } decryptOp (congrArg Status.busy status₂) rfl
      (blklen₂.trans (blklen₁.trans blklen))
      (decryptVar ▸ expandVar ▸ (congrArg BitVec.toNat schlen₂).trans schlen₁)
  have run₁ := runSteps_command events accept₁ whole₁ busy₁ (congrArg Status.busy status₁)
  have run₂ := runSteps_command (s := u₁.withSchedule [.write 0x030 (encode encrypt), .run]) rfl accept₂ whole₂ busy₂
    (congrArg Status.busy status₂)
  have run₃ := runSteps_command (s := { u₂ with din := u₂.dout, schedule := [.write 0x030 (encode decrypt), .run] }) rfl
    accept₃ whole₃ busy₃ (congrArg Status.busy status₃)
  rw [expandVar] at run₁ table
  rw [encryptVar] at run₂ dout₂
  rw [decryptVar] at run₃ dout₃
  refine ⟨u₂.withSchedule [], u₃.withSchedule [], ?run, rfl, run₃, rfl, congrArg Status.busy status₃,
    congrArg Status.done status₃, ?plaintext⟩
  case run => rw [Nat.two_mul, runSteps_add run₁, run₂]
  case plaintext =>
    have entry : ∀ n, u₂.entry n = u₁.entry n := fun n => by rw [State.entry, eks₂, draw₂]; rfl
    have ciphertext : u₂.dout = encryptBlock v s.key s.din := by
      rw [dout₂, State.withSchedule_key, State.withSchedule_din, key₁, din₁]
      rfl
    calc u₃.dout
      _ = decryptBlock v u₂.entry u₂.dout := dout₃
      _ = decryptBlock v u₂.entry (encryptBlock v s.key s.din) := by rw [ciphertext]
      _ = s.din := decryptUndoesEncrypt v s.key s.din u₂.entry fun n pos hn => (entry n).trans (table n pos hn)

/-- Settles O18: `KEYLEN` and `BLKLEN` are the lengths checked, and the accept with ENCRYPT's loads is the state the rule gives. -/
theorem encryptAccepted : Obligations.EncryptAccepted := by
  refine ⟨fun s idle keylen blklen => ?k128, fun s idle keylen blklen => ?k256⟩
  case k128 =>
    have keylen' : s.keylen.toNat = klen .k128 := congrArg BitVec.toNat keylen
    rw [exec_encrypt (i := .encryptK128) rfl idle keylen' blklen, acceptCommon_encryptLoads, Instr.variant, loadedKey_k128]
    rfl
  case k256 =>
    have keylen' : s.keylen.toNat = klen .k256 := congrArg BitVec.toNat keylen
    rw [exec_encrypt (i := .encryptK256) rfl idle keylen' blklen, acceptCommon_encryptLoads, Instr.variant, loadedKey_k256]
    rfl

/-- Settles O19: `BLKLEN` and `SCHLEN` are the lengths checked, and the accept with DECRYPT's loads is the state the rule gives. -/
theorem decryptAccepted : Obligations.DecryptAccepted := by
  refine ⟨fun s idle blklen schlen => ?k128, fun s idle blklen schlen => ?k256⟩
  case k128 =>
    have schlen' : s.schlen.toNat = slen .k128 := congrArg BitVec.toNat schlen
    rw [exec_decrypt (i := .decryptK128) rfl idle blklen schlen', acceptCommon_decryptLoads]
    rfl
  case k256 =>
    have schlen' : s.schlen.toNat = slen .k256 := congrArg BitVec.toNat schlen
    rw [exec_decrypt (i := .decryptK256) rfl idle blklen schlen', acceptCommon_decryptLoads]
    rfl

/-- Settles O32: `F` is defined as the composition, whose XOR is lane by lane. -/
theorem halfRoundFunction : Obligations.HalfRoundFunction := ⟨fun _ _ => rfl, by decide, by decide⟩

/-- Settles O40: the step is `encryptHalfRound`, the parity says which branch it updates, and from the key state after `HR` steps
`kStep` derives the next subkey. -/
theorem encryptHalfRoundStep : Obligations.EncryptHalfRoundStep := by
  refine ⟨fun s busy ho hr odd => ⟨encryptHalfRound s, engineStep_encryptHalfRound busy ho hr, ?countOdd, ?odd⟩,
    fun s busy ho hr even => ⟨encryptHalfRound s, engineStep_encryptHalfRound busy ho hr, ?countEven, ?even⟩,
    fun s k hks hrc => ?subkey, ?first, ?second⟩
  case countOdd | countEven => rw [encryptHalfRound_hr, toNat_nextHr hr]
  case odd => rw [encryptHalfRound_hr, encryptHalfRound_eq, encryptBranches_odd _ _ _ odd]
  case even => rw [encryptHalfRound_hr, encryptHalfRound_eq, encryptBranches_even _ _ _ even]
  case subkey => rw [subkey_succ, hks, hrc]
  case first | second => decide +kernel

/-- Settles O41: the step is `decryptHalfRound`, the parity says which branch it updates, and the half-rounds `n` and
`2*rounds + 1 - n` have opposite parity. -/
theorem decryptHalfRoundStep : Obligations.DecryptHalfRoundStep := by
  refine ⟨fun s busy ho hr odd => ⟨decryptHalfRound s, engineStep_decryptHalfRound busy ho hr, ?countOdd, ?odd⟩,
    fun s busy ho hr even => ⟨decryptHalfRound s, engineStep_decryptHalfRound busy ho hr, ?countEven, ?even⟩,
    fun v n sk l r pos hn => ?undo, ?first, ?second⟩
  case countOdd | countEven => rw [decryptHalfRound_hr, toNat_nextHr hr]
  case odd =>
    rw [decryptHalfRound_hr, decryptHalfRound_eq, decryptBranches_odd _ _ _ odd]
    rfl
  case even =>
    rw [decryptHalfRound_hr, decryptHalfRound_eq, decryptBranches_even _ _ _ even]
    rfl
  case undo => exact decryptBranches_encryptBranches sk l r (by omega)
  case first | second => decide +kernel

end Sys2Proof

/-! ### Host transactions and commands

What the proofs of the 44_host_commands.md family share: a host read by what its address names, the read after an idle write,
which bytes written to `CMD` start an operation, and the states of a running operation, counted by `HR`. -/

namespace Sys2Proof.Machine

/-! Host reads (44_host_commands.md R160) -/

/-- A host read is a read of what the address names. -/
theorem hostRead_of_addressMap {a : Addr} {t : Target} (h : addressMap a = t) (s : State) : hostRead a s = readTarget t s :=
  congrArg (readTarget · s) h

/-- What a host read returns does not depend on the events to come. -/
theorem hostRead_withSchedule (a : Addr) (s : State) (es : List Event) : hostRead a (s.withSchedule es) = hostRead a s := rfl

/-! The read after an idle write (44_host_commands.md R161) -/

/-- Different bytes of the schedule memory have different addresses (20_memory.md R42). -/
theorem eksAddress_inj {n n' : Fin 129} {j j' : Fin 4} (h : eksAddress n.val j.val = eksAddress n'.val j'.val) :
    n = n' ∧ j = j' := by
  unfold eksAddress at h
  omega

section
variable (s : State) (v : Byte)

/-- A register that stores what the host writes reads as the byte written. `CMD` is writable and stores nothing. -/
theorem readTarget_storeByte_same {t : Target} (writable : t.writable = true) (notCmd : t ≠ .cmd) :
    readTarget t (s.storeByte t v) = v := by
  cases t with
  | key i => exact Vector.getElem_set_self i.isLt
  | din i => exact Vector.getElem_set_self i.isLt
  | keylen | blklen | schlen => rfl
  | eks n j => exact Memory.byte_write_same s.eks s.eksDraw _ v
  | cmd => exact absurd rfl notCmd
  | dout | status | unmapped => cases writable

/-- Everything but the register written reads as before. -/
theorem readTarget_storeByte_other {t u : Target} (other : u ≠ t) : readTarget u (s.storeByte t v) = readTarget u s := by
  cases t with
  | key i =>
    cases u with
    | key k => exact Vector.getElem_set_ne i.isLt k.isLt fun same => other (congrArg Target.key (Fin.ext same.symm))
    | _ => rfl
  | din i =>
    cases u with
    | din k => exact Vector.getElem_set_ne i.isLt k.isLt fun same => other (congrArg Target.din (Fin.ext same.symm))
    | _ => rfl
  | keylen =>
    cases u with
    | keylen => exact absurd rfl other
    | _ => rfl
  | blklen =>
    cases u with
    | blklen => exact absurd rfl other
    | _ => rfl
  | schlen =>
    cases u with
    | schlen => exact absurd rfl other
    | _ => rfl
  | eks n j =>
    cases u with
    | eks m k =>
      refine Memory.byte_write_other s.eks s.eksDraw v fun same => ?_
      obtain ⟨hm, hk⟩ := eksAddress_inj same
      exact other (congrArg₂ Target.eks hm hk)
    | _ => rfl
  | dout | cmd | status | unmapped => rfl

end

/-- No two addresses name the same register (20_memory.md R41). -/
theorem addressMap_ne {a b : Addr} (mapped : addressMap a ≠ .unmapped) (h : b ≠ a) : addressMap b ≠ addressMap a := by
  intro same
  have address := address_addressMap (same ▸ mapped)
  rw [same, address_addressMap mapped] at address
  exact h (Option.some.inj address).symm

theorem Target.ne_unmapped_of_writable {t : Target} (h : t.writable = true) : t ≠ .unmapped := by
  rintro rfl
  cases h

/-- A write to a writable register other than `CMD` stores its byte in an idle core (44_host_commands.md R161). -/
theorem hostWrite_stored {a : Addr} (writable : (addressMap a).writable = true) (notCmd : addressMap a ≠ .cmd) (v : Byte)
    {s : State} (idle : s.status.busy = false) : hostWrite a v s = .next (s.storeByte (addressMap a) v) := by
  simp [hostWrite, writable, notCmd, idle]

/-! Which bytes written to `CMD` start an operation (44_host_commands.md R150, R151) -/

theorem usesKey_iff (i : Instr) : usesKey i.opCode = true ↔ i.opCode ≠ .decrypt := by cases i <;> decide

theorem usesBlock_iff (i : Instr) : usesBlock i.opCode = true ↔ i.opCode ≠ .expand := by cases i <;> decide

theorem usesTable_iff (i : Instr) : usesTable i.opCode = true ↔ i.opCode = .decrypt := by cases i <;> decide

/-- `c` is a command word whose operation finds every length it looks at right. -/
def Acceptable (c : Byte) (s : State) : Prop := ∃ i : Instr, decode c = .ok i ∧ boundaryCheck i.opCode i.variant s = none

/-- The checks, length by length. -/
theorem acceptable_iff (c : Byte) (s : State) : Acceptable c s ↔ ∃ i : Instr, c = encode i ∧
    (i.opCode ≠ .decrypt → s.keylen.toNat = klen i.variant) ∧ (i.opCode ≠ .expand → s.blklen = 8) ∧
      (i.opCode = .decrypt → s.schlen.toNat = slen i.variant) := by
  have blklen : s.blklen.toNat = blockBytes ↔ s.blklen = 8 := BitVec.toNat_inj (y := 8)
  refine exists_congr fun i => and_congr (decodeEncodeAgree i c) ?_
  rw [boundaryCheck_none_iff, usesKey_iff, usesBlock_iff, usesTable_iff, blklen]

/-- An acceptable byte makes an idle core busy. -/
theorem commandWrite_acceptable {c : Byte} {s : State} (idle : s.status.busy = false) (h : Acceptable c s) :
    ∃ t : State, commandWrite c s = .next t ∧ t.status.busy = true := by
  obtain ⟨i, word, checks⟩ := h
  exact ⟨_, (commandWrite_ok word).trans (exec_accepted idle checks), rfl⟩

/-- Any other byte is refused by an idle core. -/
theorem commandWrite_not_acceptable {c : Byte} {s : State} (idle : s.status.busy = false) (h : ¬ Acceptable c s) :
    ∃ e : CommandError, commandWrite c s = .next (refuse e s) := by
  rcases commandWrite_cases c s with ⟨busy, _⟩ | ⟨_, refused⟩ | ⟨_, i, word, checks, _⟩
  · exact absurd (idle.symm.trans busy) Bool.false_ne_true
  · exact refused
  · exact absurd ⟨i, word, checks⟩ h

/-! The decoder of table words (30_encoding.md R77) -/

/-- A table word that names a command word is one byte, and decodes as that byte. -/
theorem decode_of_decodeTableWord {w : Nat} {i : Instr} (h : decodeTableWord 8 w = some i) :
    decode (BitVec.ofNat 8 (w % 2 ^ 8)) = .ok i := by
  unfold decodeTableWord at h
  split_ifs at h with fits
  rw [Nat.mod_eq_of_lt (b := 2 ^ 8) fits.2]
  cases hd : decode (BitVec.ofNat 8 w) with
  | ok k =>
    rw [hd] at h
    exact congrArg Except.ok (Option.some.inj h)
  | error x =>
    rw [hd] at h
    cases h

/-! The finish (44_host_commands.md R154) -/

theorem ofNat_slen (v : Variant) : BitVec.ofNat 8 (slen v) = if v = .k128 then 65 else 129 := by cases v <;> rfl

/-- EXPAND's finish as one update of the state (42_key_schedule.md R117). -/
theorem expandFinish_eq (s : State) : expandFinish s =
    { s with schlen := BitVec.ofNat 8 (slen s.var), status := { s.status with busy := false, done := true } } := rfl

/-- The finish of ENCRYPT and of DECRYPT as one update of the state (43_feistel_engine.md R133, R136). -/
theorem finishCommon_storeBlock (s : State) : finishCommon (storeBlock s) =
    { s with dout := blockOf s.l s.r, status := { s.status with busy := false, done := true } } := rfl

/-- Legal flags of a busy core report no error (10_state.md R21). -/
theorem Status.legal.no_error {t : Status} (h : t.legal) (busy : t.busy = true) : t.err = false ∧ t.errcode = 0 := by
  obtain ⟨_, busyErr, _, code, _⟩ := h
  have err : t.err = false := by simpa [busy] using busyErr
  exact ⟨err, by simpa [err] using code⟩

/-! A running operation, counted by `HR` (44_host_commands.md R153, R155) -/

/-- A latched operation has its schedule step or half-round, which leaves the flags alone. -/
theorem workStep_next {s : State} (op : s.op ≠ .reserved) : ∃ t : State, workStep s = .next t ∧ t.status = s.status := by
  unfold workStep
  cases ho : s.op with
  | reserved => exact absurd ho op
  | expand => exact ⟨_, rfl, expandStep_status s⟩
  | encrypt => exact ⟨_, rfl, encryptHalfRound_status s⟩
  | decrypt => exact ⟨_, rfl, decryptHalfRound_status s⟩

/-- A latched operation has its finish. -/
theorem finishStep_next {s : State} (op : s.op ≠ .reserved) :
    ∃ t : State, finishStep s = .next t ∧ t.status = s.status.finished := by
  unfold finishStep
  cases ho : s.op with
  | reserved => exact absurd ho op
  | expand => exact ⟨_, rfl, expandFinish_status s⟩
  | encrypt => exact ⟨_, rfl, encryptFinish_status s⟩
  | decrypt => exact ⟨_, rfl, decryptFinish_status s⟩

/-- `t` is a state of the operation running in `s`, with no event to come, once `HR` has counted to `k`. -/
structure RunningAt (s : State) (k : Nat) (t : State) : Prop where
  schedule : t.schedule = []
  status : t.status = s.status
  op : t.op = s.op
  var : t.var = s.var
  hr : t.hr.toNat = k

section
variable {s t : State} {k : Nat} (h : RunningAt s k t) (busy : s.status.busy = true) (op : s.op ≠ .reserved)
include h busy op

/-- Below the last half-round the engine's step is one of the operation's, and counts on. -/
theorem RunningAt.work (hk : k < halfRounds s.var) : ∃ u : State, step t = .next u ∧ RunningAt s (k + 1) u := by
  have busy' : t.status.busy = true := h.status ▸ busy
  have below : t.hr.toNat < halfRounds t.var := by rwa [h.hr, h.var]
  obtain ⟨u, hu, hstatus⟩ := workStep_next (h.op ▸ op)
  have turn : engineStep t = .next u := (engineStep_work busy' below).trans hu
  obtain ⟨hop, hvar, _, _, _, hschedule, _⟩ := engineStep_latched turn
  obtain ⟨_, hhr⟩ := engineStep_counts turn busy' below
  exact ⟨u, (step_empty h.schedule).trans turn, hschedule.trans h.schedule, hstatus.trans h.status,
    hop.trans h.op, hvar.trans h.var, hhr.trans (congrArg (· + 1) h.hr)⟩

/-- After the last half-round the engine's step is the finish. -/
theorem RunningAt.finish (hk : k = halfRounds s.var) : ∃ u : State, step t = .next u ∧ u.status = s.status.finished := by
  have busy' : t.status.busy = true := h.status ▸ busy
  have last : t.hr.toNat = halfRounds t.var := by rw [h.hr, h.var, hk]
  obtain ⟨u, hu, hstatus⟩ := finishStep_next (h.op ▸ op)
  exact ⟨u, (step_empty h.schedule).trans ((engineStep_finish busy' last).trans hu), h.status ▸ hstatus⟩

end

end Sys2Proof.Machine

namespace Sys2Proof

open Sys2Proof.Machine

section
variable {s : State} (alone : s.schedule = []) (busy : s.status.busy = true) (op : s.op ≠ .reserved) (hr : s.hr = 0)
include alone busy op hr

/-- A run of the engine from the accept on is at half-round `k` after `k` steps. -/
theorem runSteps_runningAt {k : Nat} (hk : k ≤ halfRounds s.var) : ∃ t : State, runSteps k s = .next t ∧ RunningAt s k t := by
  induction k with
  | zero => exact ⟨s, rfl, alone, rfl, rfl, rfl, congrArg BitVec.toNat hr⟩
  | succ k ih =>
    obtain ⟨t, reach, at_k⟩ := ih (Nat.le_of_lt hk)
    obtain ⟨u, next, at_succ⟩ := at_k.work busy op hk
    exact ⟨u, by rw [runSteps_add reach, runSteps_succ next, runSteps_zero], at_succ⟩

/-- One step more, the finish. -/
theorem runSteps_finished : ∃ t : State, runSteps (halfRounds s.var + 1) s = .next t ∧ t.status = s.status.finished := by
  obtain ⟨t, reach, at_last⟩ := runSteps_runningAt alone busy op hr (Nat.le_refl (halfRounds s.var))
  obtain ⟨u, next, finished⟩ := at_last.finish busy op rfl
  exact ⟨u, by rw [runSteps_add reach, runSteps_succ next, runSteps_zero], finished⟩

end

/-- Settles O10: every clause is a target of the address map, and the read step appends what its target reads. -/
theorem hostReadReturns : Obligations.HostReadReturns := by
  intro s
  refine ⟨fun i => hostRead_of_addressMap (addressMap_key i) s, fun i => hostRead_of_addressMap (addressMap_din i) s,
    fun i => hostRead_of_addressMap (addressMap_dout i) s, rfl, by decide, rfl, rfl, rfl, rfl,
    fun n j hn hj => hostRead_eks hn hj s, fun a ha => hostRead_unbacked (.inr ((addressMap_eq_unmapped a).2 ha)) s,
    fun a rest hs => ?step⟩
  case step =>
    rw [step_event hs, performEvent_read, hostRead_withSchedule]
    rfl

/-- Settles O16: the addresses named are those of the registers that store what the host writes, and no other address names
the same register. -/
theorem idleWriteStoresOneByte : Obligations.IdleWriteStoresOneByte := by
  intro s a v rest hs idle ha
  have writable : (addressMap a).writable = true := (writable_iff a).2 (by tauto)
  have notCmd : addressMap a ≠ .cmd := fun cmd => by
    rw [(addressMap_eq_cmd a).1 cmd] at ha
    revert ha
    decide
  have mapped : addressMap a ≠ .unmapped := Target.ne_unmapped_of_writable writable
  refine ⟨(s.withSchedule rest).storeByte (addressMap a) v,
    (step_event hs).trans (hostWrite_stored (s := s.withSchedule rest) writable notCmd v idle),
    readTarget_storeByte_same _ v writable notCmd, fun b hb => ?other, ?registers⟩
  case other => exact readTarget_storeByte_other _ v (addressMap_ne mapped hb)
  case registers => simp

/-- Settles O25: an acceptable byte makes the core busy, and any other is refused, which touches `STATUS` alone. -/
theorem commandWhollyAcceptedOrInert : Obligations.CommandWhollyAcceptedOrInert := by
  intro s c idle
  by_cases h : Acceptable c s
  · obtain ⟨t, accepted, busy⟩ := commandWrite_acceptable idle h
    refine ⟨t, accepted, ⟨fun _ => (acceptable_iff c s).1 h, fun _ => busy⟩, fun notBusy => ?_⟩
    exact absurd (notBusy.symm.trans busy) Bool.false_ne_true
  · obtain ⟨e, refused⟩ := commandWrite_not_acceptable idle h
    refine ⟨refuse e s, refused, ⟨fun busy => ?_, fun lengths => ?_⟩, fun _ => ⟨e.code, e.code_range.1, rfl⟩⟩
    · exact absurd (idle.symm.trans busy) Bool.false_ne_true
    · exact absurd ((acceptable_iff c s).2 lengths) h

/-- Settles O44: the run is at half-round `k` after `k` steps, with the flags it began with, up to the finish. -/
theorem acceptedCommandFinishes : Obligations.AcceptedCommandFinishes := by
  intro s alone busy notDone op hr
  refine ⟨fun k hk => ?running, ?finished, ?count⟩
  case running =>
    obtain ⟨t, reach, at_k⟩ := runSteps_runningAt alone busy op hr hk
    exact ⟨t, reach, at_k.status ▸ busy, at_k.status ▸ notDone, at_k.hr⟩
  case finished =>
    obtain ⟨t, reach, finished⟩ := runSteps_finished alone busy op hr
    exact ⟨t, reach, congrArg Status.busy finished, congrArg Status.done finished⟩
  case count => cases s.var <;> rfl

/-- Settles O4: the step is the write to `CMD`, which executes the word that its byte decodes to. -/
theorem stepRunsDecodedWord : Obligations.StepRunsDecodedWord := by
  refine ⟨fun s c i rest hs word => ?event, fun s w i word => ?placed⟩
  case event => exact (step_writeCmd hs).trans (commandWrite_ok word)
  case placed =>
    exact (step_writeCmd (s := s.withFetchWord 8 w) rfl).trans (commandWrite_ok (decode_of_decodeTableWord word))

/-- Settles O37: each clause is the engine's step in one row of the rule's table. -/
theorem engineStepSelection : Obligations.EngineStepSelection :=
  fun _ => ⟨engineStep_idle,
    fun busy hr op => engineStep_expandStep busy op hr,
    fun busy hr op => engineStep_encryptHalfRound busy op hr,
    fun busy hr op => engineStep_decryptHalfRound busy op hr,
    fun busy hr op => engineStep_expandFinish busy op hr,
    fun busy hr op => engineStep_encryptFinish busy op hr,
    fun busy hr op => engineStep_decryptFinish busy op hr⟩

/-- Settles O42: the step is the operation's finish, as one update of the state, and legal flags of a busy core hold no error. -/
theorem finishWritesResult : Obligations.FinishWritesResult := by
  refine ⟨fun s busy op hr => ?expand, fun s busy op hr => ?block, fun s inv busy => inv.flags.no_error busy⟩
  case expand => rw [engineStep_expandFinish busy op hr, expandFinish_eq, ofNat_slen]
  case block =>
    rcases op with op | op
    · rw [engineStep_encryptFinish busy op hr, encryptFinish, finishCommon_storeBlock, blockOf]
    · rw [engineStep_decryptFinish busy op hr, decryptFinish, finishCommon_storeBlock, blockOf]

end Sys2Proof

/-! ### Refusals and runs without a stop

What the proofs of the 60_exceptions.md family share: which bytes are no command word, which of the wrong lengths a command word
reports (`Reported`), what an idle core answers in each case, and that a state of the invariant has a next state. -/

namespace Sys2Proof.Machine

/-! Bytes that are no command word (60_exceptions.md R171) -/

/-- The decoder rejects exactly the bytes that encode no command word (30_encoding.md R73). -/
theorem decode_error_iff (c : Byte) : (∃ x : DecodeReject, decode c = .error x) ↔ ∀ i : Instr, c ≠ encode i := by
  cases hc : decode c with
  | error x =>
    refine ⟨fun _ i word => ?_, fun _ => ⟨x, rfl⟩⟩
    cases hc.symm.trans ((decodeEncodeAgree i c).2 word)
  | ok i => exact ⟨nofun, fun noWord => absurd (encode_of_decode hc).symm (noWord i)⟩

/-- No command word has `OP = 0` or a bit of `RSV` set (30_encoding.md R71). -/
theorem ne_encode_of_illegal {c : Byte} (illegal : c.extractLsb' 0 2 = 0 ∨ c.extractLsb' 3 5 ≠ 0) (i : Instr) :
    c ≠ encode i := by
  intro word
  obtain ⟨rsv, op, _⟩ := fields_of_decode ((decodeEncodeAgree i c).2 word)
  rcases illegal with illegal | illegal
  · have reserved : opCodeOfField (commandFields c).op = .reserved := if_pos illegal
    exact opCode_ne_reserved i (op.symm.trans reserved)
  · exact illegal rsv

/-- A byte that is no command word is an IllegalCommand of an idle core, whatever the lengths (60_exceptions.md R171). -/
theorem commandWrite_noWord {c : Byte} {s : State} (idle : s.status.busy = false) (noWord : ∀ i : Instr, c ≠ encode i) :
    commandWrite c s = .next (refuse .illegalCommand s) := by
  obtain ⟨_, rejected⟩ := (decode_error_iff c).2 noWord
  exact commandWrite_illegal idle rejected

/-! The wrong length that a command word reports (60_exceptions.md R172 to R175) -/

/-- `i` reports the error `e`: it looks at the length that `e` names, that length is wrong, and every length it looks at
before is right. No command word is an IllegalCommand. -/
def Reported (i : Instr) (s : State) : CommandError → Prop
  | .illegalCommand => False
  | .invalidKeyLength => i.opCode ≠ .decrypt ∧ s.keylen.toNat ≠ klen i.variant
  | .invalidBlockLength => i.opCode ≠ .expand ∧ s.blklen ≠ 8 ∧ (i.opCode ≠ .decrypt → s.keylen.toNat = klen i.variant)
  | .invalidScheduleLength => i.opCode = .decrypt ∧ s.schlen.toNat ≠ slen i.variant ∧ s.blklen = 8

/-- The first failing check is the reported error. -/
theorem boundaryCheck_eq_some_iff (i : Instr) (s : State) (e : CommandError) :
    boundaryCheck i.opCode i.variant s = some e ↔ Reported i s e := by
  have blklen : s.blklen.toNat = blockBytes ↔ s.blklen = 8 := BitVec.toNat_inj (y := 8)
  simp only [boundaryCheck, usesKey_iff, usesBlock_iff, usesTable_iff, ne_eq, blklen]
  refine ⟨fun check => ?reports, fun reported => ?fails⟩
  case reports =>
    split_ifs at check with key block table <;> cases check
    · exact key
    · exact ⟨block.1, block.2, fun uses => by_contra fun wrong => key ⟨uses, wrong⟩⟩
    · exact ⟨table.1, table.2, by_contra fun wrong => block ⟨by simp [table.1], wrong⟩⟩
  case fails =>
    cases e with
    | illegalCommand => exact reported.elim
    | invalidKeyLength => exact if_pos reported
    | invalidBlockLength =>
      obtain ⟨uses, wrong, keylen⟩ := reported
      rw [if_neg fun key => key.2 (keylen key.1), if_pos ⟨uses, wrong⟩]
    | invalidScheduleLength =>
      obtain ⟨decrypt, wrong, blklen⟩ := reported
      rw [if_neg fun key => key.1 decrypt, if_neg fun block => block.2 blklen, if_pos ⟨decrypt, wrong⟩]

/-- A command word issued while idle is refused with the error it reports (60_exceptions.md R176). -/
theorem exec_refused {i : Instr} {s : State} {e : CommandError} (idle : s.status.busy = false) (reported : Reported i s e) :
    exec i s = .next (refuse e s) := by
  rw [exec_eq, issue_refused idle ((boundaryCheck_eq_some_iff i s e).2 reported)]

/-- What a command word issued while idle answers: it is accepted, or refused with the error it reports. -/
theorem exec_idle_cases {i : Instr} {s t : State} (idle : s.status.busy = false) (h : exec i s = .next t) :
    t = acceptCommon i.opCode i.variant (loadsOf i s) ∨ ∃ e : CommandError, Reported i s e ∧ t = refuse e s := by
  cases check : boundaryCheck i.opCode i.variant s with
  | none =>
    cases (exec_accepted idle check).symm.trans h
    exact .inl rfl
  | some e =>
    have reported := (boundaryCheck_eq_some_iff i s e).1 check
    cases (exec_refused idle reported).symm.trans h
    exact .inr ⟨e, reported, rfl⟩

/-- Different errors have different codes (60_exceptions.md R170). -/
theorem CommandError.code_inj {e e' : CommandError} (h : e.code = e'.code) : e = e' := by
  revert h
  cases e <;> cases e' <;> decide

/-- The code left is the one of the reported error (60_exceptions.md R176). -/
theorem exec_errcode {i : Instr} {s t : State} {e : CommandError} (idle : s.status.busy = false) (reported : Reported i s e)
    (h : exec i s = .next t) : t.status.errcode = e.code := by
  cases (exec_refused idle reported).symm.trans h
  rfl

/-- The code of an error that is not reported is not left: an accept leaves 0, a refusal its own code. -/
theorem exec_errcode_ne {i : Instr} {s t : State} {e : CommandError} (idle : s.status.busy = false)
    (other : ¬ Reported i s e) (h : exec i s = .next t) : t.status.errcode ≠ e.code := by
  rcases exec_idle_cases idle h with rfl | ⟨e', reported, rfl⟩
  · exact e.code_range.1.symm
  · rintro code
    cases CommandError.code_inj (e := e') code
    exact other reported

/-! How long the report stays (60_exceptions.md R178) -/

/-- A step that neither writes `CMD` nor resets leaves the report alone, on a busy core too. -/
theorem Moves.error_report {s t : State} (h : Moves s t)
    (noCommand : ∀ (v : Byte) (rest : List Event), s.schedule ≠ .write 0x030 v :: rest)
    (noReset : ∀ rest : List Event, s.schedule ≠ .reset :: rest) :
    t.status.err = s.status.err ∧ t.status.errcode = s.status.errcode := by
  cases h with
  | engine _ next =>
    obtain ⟨_, _, err, errcode, _⟩ := engineStep_latched next
    exact ⟨err, errcode⟩
  | runDone | read | unbacked | dropped => exact ⟨rfl, rfl⟩
  | refused _ event => exact absurd event (noCommand _ _)
  | accepted _ event => exact absurd event (noCommand _ _)
  | stored => simp
  | reset event => exact absurd event (noReset _)

end Sys2Proof.Machine

namespace Sys2Proof

open Sys2Proof.Machine

/-- A state of the invariant has a next state, whatever the next event (60_exceptions.md R177). -/
theorem Invariant.step_next {s : State} (h : Invariant s) : ∃ t : State, step s = .next t := by
  cases hs : s.schedule with
  | nil =>
    rw [step_empty hs]
    exact h.engineStep_next
  | cons e rest =>
    rw [step_event hs]
    cases e with
    | read | reset => exact ⟨_, rfl⟩
    | write a v => exact hostWrite_next a v (s.withSchedule rest)
    | engine => exact (h.withSchedule rest).engineStep_next
    | run =>
      cases hb : s.status.busy with
      | false => exact ⟨_, performEvent_run_idle (s := s.withSchedule rest) hb⟩
      | true =>
        rw [performEvent_run_busy (s := s.withSchedule rest) hb]
        exact (h.withSchedule (.run :: rest)).engineStep_next

/-- Settles O52: by induction on the length of the run, every state of which meets the invariant. -/
theorem runNeverStops : Obligations.RunNeverStops := by
  intro s h k
  induction k generalizing s with
  | zero => exact ⟨s, runSteps_zero s⟩
  | succ k ih =>
    obtain ⟨t, next⟩ := h.step_next
    rw [runSteps_succ next]
    exact ih t (stepKeepsInvariant s t h next)

/-- Settles O3: such a byte encodes no command word. -/
theorem illegalByteRefused : Obligations.IllegalByteRefused := by
  intro s c rest hs idle illegal
  exact (step_writeCmd hs).trans (commandWrite_noWord (s := s.withSchedule rest) idle (ne_encode_of_illegal illegal))

/-- Settles O27: no other move touches the report, and a command write is accepted, refused with the error it
reports, or an IllegalCommand. -/
theorem errorReportStays : Obligations.ErrorReportStays := by
  refine ⟨fun s t _ noCommand noReset h => (step_moves h).error_report noCommand noReset,
    fun s t c idle h => ?command, fun s rest hs => ⟨_, step_event hs, rfl, rfl⟩⟩
  case command =>
    cases hc : decode c with
    | error x =>
      cases (commandWrite_illegal idle hc).symm.trans h
      exact .inr ⟨idle, rfl, .inl ⟨(decode_error_iff c).1 ⟨x, hc⟩, rfl⟩⟩
    | ok i =>
      rcases exec_idle_cases idle ((commandWrite_ok hc).symm.trans h) with rfl | ⟨e, reported, rfl⟩
      · exact .inl ⟨rfl, rfl, rfl⟩
      · refine .inr ⟨idle, rfl, .inr ⟨i, (encode_of_decode hc).symm, ?_⟩⟩
        cases e with
        | illegalCommand => exact reported.elim
        | invalidKeyLength =>
          obtain ⟨uses, wrong⟩ := reported
          exact .inl ⟨uses, wrong, rfl⟩
        | invalidBlockLength =>
          obtain ⟨uses, wrong, _⟩ := reported
          exact .inr (.inl ⟨uses, wrong, rfl⟩)
        | invalidScheduleLength =>
          obtain ⟨uses, wrong, _⟩ := reported
          exact .inr (.inr ⟨uses, wrong, rfl⟩)

/-- Settles O21: EXPAND and ENCRYPT look at `KEYLEN` first, and DECRYPT does not look at it. -/
theorem invalidKeyLengthRefused : Obligations.InvalidKeyLengthRefused := by
  refine ⟨fun i s word idle wrong => ?k128, fun i s word idle wrong => ?k256, fun i s t word idle => ?decrypt⟩
  case k128 =>
    have differs : s.keylen.toNat ≠ klen .k128 := fun same => wrong (BitVec.eq_of_toNat_eq same)
    rcases word with rfl | rfl <;> exact exec_refused (e := .invalidKeyLength) idle ⟨nofun, differs⟩
  case k256 =>
    have differs : s.keylen.toNat ≠ klen .k256 := fun same => wrong (BitVec.eq_of_toNat_eq same)
    rcases word with rfl | rfl <;> exact exec_refused (e := .invalidKeyLength) idle ⟨nofun, differs⟩
  case decrypt =>
    rcases word with rfl | rfl <;> exact exec_errcode_ne (e := .invalidKeyLength) idle fun reported => reported.1 rfl

/-- Settles O22: ENCRYPT looks at `BLKLEN` after `KEYLEN`, DECRYPT looks at it first, and EXPAND does not look at it. -/
theorem invalidBlockLengthRefused : Obligations.InvalidBlockLengthRefused := by
  refine ⟨fun s idle keylen wrong => ?k128, fun s idle keylen wrong => ?k256, fun i s word idle wrong => ?decrypt,
    fun i s t word idle => ?expand⟩
  case k128 => exact exec_refused (e := .invalidBlockLength) idle ⟨nofun, wrong, fun _ => congrArg BitVec.toNat keylen⟩
  case k256 => exact exec_refused (e := .invalidBlockLength) idle ⟨nofun, wrong, fun _ => congrArg BitVec.toNat keylen⟩
  case decrypt =>
    rcases word with rfl | rfl <;>
      exact exec_refused (e := .invalidBlockLength) idle ⟨nofun, wrong, fun notDecrypt => absurd rfl notDecrypt⟩
  case expand =>
    rcases word with rfl | rfl <;> exact exec_errcode_ne (e := .invalidBlockLength) idle fun reported => reported.1 rfl

/-- Settles O23: DECRYPT looks at `SCHLEN` after `BLKLEN`, and no other operation looks at it. -/
theorem invalidScheduleLengthRefused : Obligations.InvalidScheduleLengthRefused := by
  refine ⟨fun s idle blklen wrong => ?k128, fun s idle blklen wrong => ?k256, fun i word => ?reset,
    fun i s t other idle => exec_errcode_ne (e := .invalidScheduleLength) idle fun reported => other reported.1⟩
  case k128 =>
    have differs : s.schlen.toNat ≠ slen .k128 := fun same => wrong (BitVec.eq_of_toNat_eq same)
    exact exec_refused (e := .invalidScheduleLength) idle ⟨rfl, differs, blklen⟩
  case k256 =>
    have differs : s.schlen.toNat ≠ slen .k256 := fun same => wrong (BitVec.eq_of_toNat_eq same)
    exact exec_refused (e := .invalidScheduleLength) idle ⟨rfl, differs, blklen⟩
  case reset => rcases word with rfl | rfl <;> exact exec_refused (e := .invalidScheduleLength) rfl ⟨rfl, by decide, rfl⟩

/-- Settles O24: the reported error is the first in the order of the checks, and a byte that is no command word reaches none. -/
theorem refusalPriority : Obligations.RefusalPriority := by
  refine ⟨fun i s t encrypt idle keylen _ => ?encrypt, fun i s t decrypt idle blklen _ => ?decrypt,
    fun c s t idle noWord h => ?noWord⟩
  case encrypt => exact exec_errcode (e := .invalidKeyLength) idle ⟨by simp [encrypt], keylen⟩
  case decrypt =>
    exact exec_errcode (e := .invalidBlockLength) idle ⟨by simp [decrypt], blklen, fun notDecrypt => absurd decrypt notDecrypt⟩
  case noWord =>
    cases (commandWrite_noWord idle noWord).symm.trans h
    rfl

end Sys2Proof

/-! ### Control without data, and reset against a running operation

What the proofs of the 70_reset_and_hazards.md family share. `forgetData` clears every register that holds key, block or table
bytes, and the bytes already read. Each operation answers the same flags, sequencer, lengths and events to come on the state so
cleared as on the state itself, so what these become depends on them alone (R219). Of R201: what takes a busy core to an idle
one. -/

namespace Sys2Proof.Machine

/-- The state with everything that holds key, block or table bytes at its reset value (70_reset_and_hazards.md R219). -/
def forgetData (s : State) : State :=
  { State.reset with
    status := s.status, hr := s.hr, op := s.op, var := s.var, keylen := s.keylen, blklen := s.blklen, schlen := s.schlen,
    schedule := s.schedule }

/-- The next state of an outcome without its data, if the outcome is one. -/
def controlOf : Host.Outcome State Fault Refusal → Option State
  | .next s => some (forgetData s)
  | .fault _ => none
  | .refused _ => none

@[simp] theorem controlOf_next (s : State) : controlOf (.next s) = some (forgetData s) := rfl

theorem next_of_controlOf_eq_some {x : Host.Outcome State Fault Refusal} {c : State} (h : controlOf x = some c) :
    ∃ s : State, x = .next s ∧ forgetData s = c := by
  cases x with
  | next s => exact ⟨s, rfl, Option.some.inj h⟩
  | fault | refused => cases h

section
variable (s : State)

/-! The engine's steps -/

/-- `OP` says which work step is taken, and whatever that step computes it counts `HR` on. -/
theorem controlOf_workStep : controlOf (workStep s) = controlOf (workStep (forgetData s)) := by
  have op : (forgetData s).op = s.op := rfl
  unfold workStep
  rw [op]
  cases s.op with
  | reserved => rfl
  | expand | encrypt | decrypt => simp [forgetData]

/-- `OP` says which finish is taken, and of its result only EXPAND's `SCHLEN`, the variant's own, is no data. -/
theorem controlOf_finishStep : controlOf (finishStep s) = controlOf (finishStep (forgetData s)) := by
  have op : (forgetData s).op = s.op := rfl
  unfold finishStep
  rw [op]
  cases s.op with
  | reserved | expand | encrypt | decrypt => rfl

/-- Which row of 44_host_commands.md R153 is enabled depends on `BUSY`, `HR`, `OP` and `VAR` alone. -/
theorem controlOf_engineStep : controlOf (engineStep s) = controlOf (engineStep (forgetData s)) := by
  have status : (forgetData s).status = s.status := rfl
  have hr : (forgetData s).hr = s.hr := rfl
  have var : (forgetData s).var = s.var := rfl
  unfold engineStep
  rw [status, hr, var]
  split_ifs
  · exact controlOf_workStep s
  · exact controlOf_finishStep s
  · rfl
  · rfl

/-! The host's transactions -/

/-- A command word's loads write data, and `SCHLEN` with a value of the word's own (42_key_schedule.md R115). -/
theorem forgetData_accept (i : Instr) : forgetData (acceptCommon i.opCode i.variant (loadsOf i s)) =
    forgetData (acceptCommon i.opCode i.variant (loadsOf i (forgetData s))) := by
  simp [forgetData, loadsOf_schlen]

/-- The checks of a command word look at the length registers alone (44_host_commands.md R151). -/
theorem forgetData_issue (i : Instr) : forgetData (issue i.opCode i.variant (loadsOf i) s) =
    forgetData (issue i.opCode i.variant (loadsOf i) (forgetData s)) := by
  have checks : boundaryCheck i.opCode i.variant (forgetData s) = boundaryCheck i.opCode i.variant s := rfl
  rcases issue_cases i.opCode i.variant (loadsOf i) s with ⟨busy, he⟩ | ⟨idle, e, check, he⟩ | ⟨idle, check, he⟩
  · rw [he, issue_busy (s := forgetData s) busy]
    rfl
  · rw [he, issue_refused (s := forgetData s) idle (checks.trans check)]
    rfl
  · rw [he, issue_accepted (s := forgetData s) idle (checks.trans check)]
    exact forgetData_accept s i

theorem controlOf_commandWrite (c : Byte) (idle : s.status.busy = false) :
    controlOf (commandWrite c s) = controlOf (commandWrite c (forgetData s)) := by
  cases hc : decode c with
  | error x =>
    rw [commandWrite_illegal idle hc, commandWrite_illegal (s := forgetData s) idle hc]
    rfl
  | ok i =>
    rw [commandWrite_ok hc, commandWrite_ok hc, exec_eq, exec_eq]
    exact congrArg some (forgetData_issue s i)

/-- Only the length registers keep a stored byte that is no data. -/
theorem forgetData_storeByte (x : Target) (v : Byte) :
    forgetData (s.storeByte x v) = forgetData ((forgetData s).storeByte x v) := by
  cases x <;> rfl

theorem controlOf_hostWrite (a : Addr) (v : Byte) :
    controlOf (hostWrite a v s) = controlOf (hostWrite a v (forgetData s)) := by
  have status : (forgetData s).status = s.status := rfl
  unfold hostWrite
  rw [status]
  split_ifs with unbacked busy cmd
  · rfl
  · rfl
  · exact controlOf_commandWrite s v (by simpa using busy)
  · exact congrArg some (forgetData_storeByte s _ v)

/-! The step -/

theorem controlOf_performEvent (e : Event) : controlOf (performEvent e s) = controlOf (performEvent e (forgetData s)) := by
  cases e with
  | read | reset => rfl
  | write a v => exact controlOf_hostWrite s a v
  | engine => exact controlOf_engineStep s
  | run =>
    cases hb : s.status.busy with
    | true =>
      rw [performEvent_run_busy hb, performEvent_run_busy (s := forgetData s) hb]
      exact controlOf_engineStep (s.withSchedule (.run :: s.schedule))
    | false =>
      rw [performEvent_run_idle hb, performEvent_run_idle (s := forgetData s) hb]
      rfl

/-- A step's control is that of the same step without the data. -/
theorem controlOf_step : controlOf (step s) = controlOf (step (forgetData s)) := by
  cases hs : s.schedule with
  | nil =>
    rw [step_empty hs, step_empty (s := forgetData s) hs]
    exact controlOf_engineStep s
  | cons e rest =>
    rw [step_event hs, step_event (s := forgetData s) hs]
    exact controlOf_performEvent (s.withSchedule rest) e

end

/-! What ends a running operation (70_reset_and_hazards.md R201) -/

/-- An engine step that leaves a busy core idle is the finish: every other one counts on and stays busy. -/
theorem engineStep_stops {s t : State} (h : engineStep s = .next t) (busy : s.status.busy = true)
    (idle : t.status.busy = false) : s.hr.toNat = halfRounds s.var ∧ t.status = s.status.finished := by
  rcases engineStep_cases h with ⟨idle', _⟩ | ⟨_, hr, _⟩ | ⟨_, hr, ⟨_, rfl⟩ | ⟨_, rfl⟩ | ⟨_, rfl⟩⟩
  · exact absurd (idle'.symm.trans busy) Bool.false_ne_true
  · obtain ⟨busy', _⟩ := engineStep_counts h busy hr
    exact absurd (idle.symm.trans busy') Bool.false_ne_true
  · exact ⟨hr, expandFinish_status s⟩
  · exact ⟨hr, encryptFinish_status s⟩
  · exact ⟨hr, decryptFinish_status s⟩

/-- A step that leaves a busy core idle is the finish or the reset: no access of the host touches `BUSY` while it is set. -/
theorem Moves.stops {s t : State} (h : Moves s t) (busy : s.status.busy = true) (idle : t.status.busy = false) :
    (∃ rest : List Event, s.schedule = .reset :: rest) ∨
    (s.hr.toNat = halfRounds s.var ∧ t.status = s.status.finished) := by
  cases h with
  | @engine es _ _ next => exact .inr (engineStep_stops (s := s.withSchedule es) next busy idle)
  | reset event => exact .inl ⟨_, event⟩
  | read | unbacked | dropped => exact absurd (idle.symm.trans busy) Bool.false_ne_true
  | runDone _ idle' | refused _ _ idle' | accepted _ _ idle' | stored _ _ _ idle' =>
    exact absurd (idle'.symm.trans busy) Bool.false_ne_true

end Sys2Proof.Machine

namespace Sys2Proof

open Sys2Proof.Machine

theorem sameControl_iff {s t : State} : SameControl s t ↔ forgetData s = forgetData t := by
  constructor
  · rintro ⟨hstatus, hhr, hop, hvar, hkeylen, hblklen, hschlen, hschedule⟩
    simp only [forgetData, hstatus, hhr, hop, hvar, hkeylen, hblklen, hschlen, hschedule]
  · intro h
    simp only [forgetData, State.mk.injEq, true_and, and_true] at h
    obtain ⟨hhr, hop, hvar, hstatus, hkeylen, hblklen, hschlen, hschedule⟩ := h
    exact ⟨hstatus, hhr, hop, hvar, hkeylen, hblklen, hschlen, hschedule⟩

/-- States of the same control take the same step, to states of the same control. -/
theorem SameControl.step {s t s' : State} (h : SameControl s t) (hs : step s = .next s') :
    ∃ t' : State, Machine.step t = .next t' ∧ SameControl s' t' := by
  have control : controlOf (Machine.step t) = some (forgetData s') := by
    rw [controlOf_step, ← sameControl_iff.1 h, ← controlOf_step, hs, controlOf_next]
  obtain ⟨t', ht, same⟩ := next_of_controlOf_eq_some control
  exact ⟨t', ht, sameControl_iff.2 same.symm⟩

/-- Settles O54: by induction on the length of the run, a step of which keeps the agreement. -/
theorem dataNeverReachesControl : Obligations.DataNeverReachesControl := by
  intro k
  induction k with
  | zero =>
    intro s t s' h hrun
    cases hrun
    exact ⟨t, runSteps_zero t, h⟩
  | succ k ih =>
    intro s t s' h hrun
    obtain ⟨s₁, hstep, hrest⟩ := runSteps_succ_next hrun
    obtain ⟨t₁, hstep', h₁⟩ := h.step hstep
    rw [runSteps_succ hstep']
    exact ih s₁ t₁ s' h₁ hrest

/-- Settles O8: what reset leaves is the reset state, whose engine is idle; of the other steps only the finish ends an
operation. -/
theorem resetAbandonsOperation : Obligations.ResetAbandonsOperation := by
  refine ⟨fun s rest hs _ => ?reset, fun s t busy notReset hstep idle => ?finish⟩
  case reset =>
    have dout : ∀ i : Fin 8, State.reset.dout.get i = 0x00 := by decide
    exact ⟨resetCore (s.withSchedule rest), step_event hs, rfl, rfl, dout, rfl, engineStep_idle rfl⟩
  case finish =>
    rcases (step_moves hstep).stops busy idle with ⟨rest, event⟩ | ⟨hr, status⟩
    · exact absurd event (notReset rest)
    · exact ⟨hr, by rw [status, Status.finished_done]⟩

end Sys2Proof

/-! ### Bytes of `EKS` that nobody wrote, the events of the schedule, and where the engine stops

What the proofs of the last family share: a host read after any idle host write but to `CMD` (70_reset_and_hazards.md R203), the
schedule put back as it was, and the engine's step in the states that 44_host_commands.md R158 calls unreachable. -/

namespace Sys2Proof.Machine

/-- A byte with nothing written since the reset reads as the free value of its address and drawing (70_reset_and_hazards.md
R203). -/
theorem Memory.byte_unlisted {m : Memory} {a : Nat} (unlisted : m.lookup a = none) (draw : Nat) :
    m.byte draw a = Config.eksReset draw a := by
  rw [Memory.byte, unlisted, Option.getD_none]

/-- Every byte of the schedule memory stores what the host writes (20_memory.md R41, R42). -/
theorem addressMap_eks_stores {n j : Nat} (hn : n ≤ 128) (hj : j ≤ 3) :
    (addressMap (BitVec.ofNat 11 (0x400 + 4 * n + j))).writable = true ∧
    addressMap (BitVec.ofNat 11 (0x400 + 4 * n + j)) ≠ .cmd := by
  have hmap : addressMap (BitVec.ofNat 11 (0x400 + 4 * n + j)) = .eks ⟨n, by omega⟩ ⟨j, by omega⟩ :=
    addressMap_eks ⟨n, by omega⟩ ⟨j, by omega⟩
  rw [hmap]
  exact ⟨rfl, Target.noConfusion⟩

/-- After an idle write to any address but `CMD`, a register that stores what the host writes reads as the byte written if it
was written itself, and as before otherwise (44_host_commands.md R160, R161). -/
theorem hostRead_hostWrite {a b : Addr} {v : Byte} {s t : State} (idle : s.status.busy = false) (ha : a ≠ 0x030)
    (writable : (addressMap b).writable = true) (notCmd : addressMap b ≠ .cmd) (h : hostWrite a v s = .next t) :
    hostRead b t = if a = b then v else hostRead b s := by
  by_cases same : a = b
  · subst same
    cases (hostWrite_stored writable notCmd v idle).symm.trans h
    rw [if_pos rfl]
    exact readTarget_storeByte_same s v writable notCmd
  · rw [if_neg same]
    rcases hostWrite_cases a v s with ⟨_, he⟩ | ⟨_, busy, _⟩ | ⟨cmd, _, _⟩ | ⟨stores, _, _, he⟩
    · cases he.symm.trans h
      rfl
    · exact absurd (idle.symm.trans busy) Bool.false_ne_true
    · exact absurd cmd ha
    · cases he.symm.trans h
      exact readTarget_storeByte_other s v (addressMap_ne (Target.ne_unmapped_of_writable stores) (Ne.symm same))

/-- The events still to come, put back as they were. -/
theorem withSchedule_of_schedule {s : State} {es : List Event} (h : s.schedule = es) : s.withSchedule es = s := by
  subst h
  rfl

/-- The rows of R153 with a schedule step or half-round stop without an operation only. -/
theorem workStep_stuck_iff (s : State) : workStep s = .fault .engineStuck ↔ s.op = .reserved := by
  unfold workStep
  cases s.op with
  | reserved => simp
  | expand | encrypt | decrypt => simp

/-- The rows of R153 with a finish stop without an operation only. -/
theorem finishStep_stuck_iff (s : State) : finishStep s = .fault .engineStuck ↔ s.op = .reserved := by
  unfold finishStep
  cases s.op with
  | reserved => simp
  | expand | encrypt | decrypt => simp

/-- Above the last half-round no step is enabled (44_host_commands.md R153, R158). -/
theorem engineStep_above {s : State} (busy : s.status.busy = true) (above : halfRounds s.var < s.hr.toNat) :
    engineStep s = .fault .engineStuck := by
  rw [engineStep, if_pos busy, if_neg (Nat.lt_asymm above), if_neg (Nat.ne_of_gt above)]

/-- A busy core stops at its engine's turn without an operation or above the last half-round (44_host_commands.md R158). -/
theorem engineStep_stuck_iff_of_busy {s : State} (busy : s.status.busy = true) :
    engineStep s = .fault .engineStuck ↔ s.op = .reserved ∨ halfRounds s.var < s.hr.toNat := by
  rcases Nat.lt_trichotomy s.hr.toNat (halfRounds s.var) with below | last | above
  · rw [engineStep_work busy below, workStep_stuck_iff, or_iff_left (Nat.lt_asymm below)]
  · rw [engineStep_finish busy last, finishStep_stuck_iff, or_iff_left (Nat.not_lt_of_le (Nat.le_of_eq last))]
  · exact iff_of_true (engineStep_above busy above) (.inr above)

end Sys2Proof.Machine

namespace Sys2Proof

open Sys2Proof.Machine

/-- Settles O9: an unlisted byte reads as the free value, and a write to any address but `CMD` changes what the byte reads as
only if it is the byte's own. -/
theorem eksByteFixedUntilWritten : Obligations.EksByteFixedUntilWritten := by
  intro s t n j hn hj idle unlisted
  have free : hostRead (BitVec.ofNat 11 (0x400 + 4 * n + j)) s = Config.eksReset s.eksDraw (0x400 + 4 * n + j) :=
    (hostRead_eks hn hj s).trans (Memory.byte_unlisted unlisted s.eksDraw)
  refine ⟨free, fun a v ha h => ?_⟩
  obtain ⟨writable, notCmd⟩ := addressMap_eks_stores hn hj
  rw [hostRead_hostWrite idle ha writable notCmd h, free]

/-- Settles O5: every clause is the step of one event, and a `RUN` that stays puts the schedule back as it was. -/
theorem stepFollowsSchedule : Obligations.StepFollowsSchedule := by
  refine ⟨fun s => step_empty, fun s rest => step_event, fun s rest hs busy => ?runBusy, fun s rest hs idle => ?runIdle⟩
  case runBusy =>
    calc step s
      _ = performEvent .run (s.withSchedule rest) := step_event hs
      _ = engineStep (s.withSchedule (.run :: rest)) := performEvent_run_busy (s := s.withSchedule rest) busy
      _ = engineStep s := by rw [withSchedule_of_schedule hs]
  case runIdle => exact (step_event hs).trans (performEvent_run_idle (s := s.withSchedule rest) idle)

/-- Settles O7: the reset event is `resetCore`, which keeps the events to come, the bytes read and the count of drawings. -/
theorem resetFromAnyState : Obligations.ResetFromAnyState := fun _ _ hs => step_event hs

/-- Settles O38: an idle core's engine changes nothing, and a busy one's stops in the states named. -/
theorem engineStuckExactlyWhereUnreachable : Obligations.EngineStuckExactlyWhereUnreachable := by
  intro s
  cases hb : s.status.busy with
  | false => simp [engineStep_idle hb]
  | true => exact (engineStep_stuck_iff_of_busy hb).trans (and_iff_right rfl).symm

end Sys2Proof
